-- ==== Sys2Proof/Word.lean ====
section
/-! DEFINITION. Words of the machine: the widths 00_scope.md R8 and 10_state.md give. -/

namespace Sys2Proof

/-- One byte: an operand byte, a bus byte, the checksum accumulator (R8, R27). -/
abbrev Byte := BitVec 8

/-- A 16-bit value: a subcommand code, a Data-Memory address, RAW, a CELL entry (R8, R30, R34). -/
abbrev Half := BitVec 16

/-- A 32-bit host register (R22). -/
abbrev Word := BitVec 32

/-- A command word, 40 bits (R80). -/
abbrev CmdWord := BitVec 40

/-- A host register number, 5 bits (R22). -/
abbrev RegNo := BitVec 5

end Sys2Proof
end

