-- ==== Sys2Proof/Config.lean ====
section
/-! DEFINITION. Constants of 00_scope.md R7, the open parameters of R9, and the one free value of the model
(10_state.md R38). -/

namespace Sys2Proof.Config

/-- Transport endpoint of every bus write, and the first byte of a Data-Memory checksum (R7, R55). -/
def devWr : Byte := 0x10
/-- Transport endpoint of every bus read (R7, R55). -/
def devRd : Byte := 0x11
/-- Control/subcommand selector (R7, R51). -/
def selCtrl : Byte := 0x3E
/-- Second address of the control pair; never transmitted by CCA (R7, R51). -/
def selCtrlHi : Byte := 0x3F
/-- Response-window selector (R7, R51). -/
def selResp : Byte := 0x40
/-- Checksum/length commit selector (R7, R51). -/
def selCklen : Byte := 0x60
/-- Response length register; used by no operation (R7, R51). -/
def selRespLen : Byte := 0x61
/-- Fixed length byte of a Data-Memory write (R7, R88). -/
def dmLen : Byte := 0x05

/-- Direct Command opcodes (R7). -/
def opProt : Byte := 0x03
def opTempstat : Byte := 0x05
def opCell1 : Byte := 0x14
def opStackv : Byte := 0x34
def opPackv : Byte := 0x36
def opCc2 : Byte := 0x3A
def opItemp : Byte := 0x68
def opTs1 : Byte := 0x70
def opTs2 : Byte := 0x72
def opTs3 : Byte := 0x74
def opHdq : Byte := 0x76
def opDchg : Byte := 0x78
def opDdsg : Byte := 0x7A
def opFetstat : Byte := 0x7F

/-- Subcommand codes (R7, R53). -/
def scReset : Half := 0x0012
def scCuEnter : Half := 0x0090
def scCuExit : Half := 0x0092
def scDsgOff : Half := 0x0093
def scChgOff : Half := 0x0094
def scAllOff : Half := 0x0095
def scAllOn : Half := 0x0096

/-- Data-Memory addresses of the cell-overvoltage threshold and delay (R7, R54). -/
def dmCovThresh : Half := 0x9278
def dmCovDelay : Half := 0x9279

/-- Lower bounds of the settle delays, in microseconds (R7, R66). -/
def tEnterUs : Nat := 2000
def tExitUs : Nat := 1000

/-- Legal raw ranges and defaults of SETCOV (R7). -/
def covRawMin : Nat := 20
def covRawMax : Nat := 110
def covRawDefault : Nat := 86
def covDlyMin : Int := 1
def covDlyMax : Int := 2047
def covDlyDefault : Int := 74

/-- Bits of the FET status byte tested by ISCHG and ISDSG (R7, R155). -/
def fetBitChg : Nat := 0
def fetBitDsg : Nat := 2
/-- Bits of the protection status byte whose position the source gives (R7, R151). -/
def protBitCellOv : Nat := 3
def protBitCellUv : Nat := 2

/-- PROT_POS (R9 (b)): where four protection flags stand in the status byte. -/
structure ProtPos where
  scDchg : Fin 8
  oc1Dchg : Fin 8
  oc2Dchg : Fin 8
  ocChg : Fin 8
deriving DecidableEq, Repr

/-- TEMP_POS (R9 (c)): where the seven temperature-protection flags stand in the status byte. -/
structure TempPos where
  otFet : Fin 8
  otInt : Fin 8
  otDchg : Fin 8
  otChg : Fin 8
  utInt : Fin 8
  utDchg : Fin 8
  utChg : Fin 8
deriving DecidableEq, Repr

/-- The open parameters (R9), arguments of the step relation (R21). Log entry 1. -/
structure Params where
  currentSignExtend : Bool
  protPos : ProtPos
  tempPos : TempPos
deriving DecidableEq, Repr

/-- The four positions of PROT_POS in the order R9 lists them. -/
def ProtPos.positions (p : ProtPos) : List (Fin 8) := [p.scDchg, p.oc1Dchg, p.oc2Dchg, p.ocChg]

/-- The seven positions of TEMP_POS in the order R9 lists them. -/
def TempPos.positions (p : TempPos) : List (Fin 8) :=
  [p.otFet, p.otInt, p.otDchg, p.otChg, p.utInt, p.utDchg, p.utChg]

/-- The constraint R9 puts on the parameters: PROT_POS distinct and off bits 2 and 3, TEMP_POS distinct. -/
def Params.legal (p : Params) : Bool :=
  decide (p.protPos.positions.Nodup) &&
    p.protPos.positions.all (fun i => i.val != protBitCellUv && i.val != protBitCellOv) &&
    decide (p.tempPos.positions.Nodup)

/-- The defaults R9 gives. Those of PROT_POS and TEMP_POS are marked there as general knowledge, not in the source:
UNVERIFIED, unsafe for a claim that rests on them. Log entry 1. -/
def Params.default : Params where
  currentSignExtend := false
  protPos := ⟨7, 5, 6, 4⟩
  tempPos := ⟨7, 6, 5, 4, 2, 1, 0⟩

/-- What a host read of a register returns while `busy = 1` (R38: "it may return any value"): a free value, fresh for
each such read. No body, so no proof can know a value of it. Log entry 8, safe. -/
opaque busyReadValue : Nat → Word

end Sys2Proof.Config
end

