-- ==== Sys2Proof/Syntax.lean ====
section
/-! DEFINITION. The command set CCA-CMD v1 (00_scope.md R3, 30_encoding.md R81 to R83): one constructor per row of
spec/opcode_table.json, and the pseudo-instructions of R90. -/

namespace Sys2Proof

/-- Thermistor channel (R82, R146): `ch` 0 to 5, a closed variant. -/
inductive Thermistor where
  | ts1 | ts2 | ts3 | hdq | dchg | ddsg
deriving DecidableEq, Repr

/-- SETFET target (R82, R170): 0 CHG, 1 DCH, 2 ALL. -/
inductive FetTarget where
  | chg | dch | all
deriving DecidableEq, Repr

/-- SETFET state (R82, R170): 0 OFF, 1 ON. -/
inductive FetState where
  | off | on
deriving DecidableEq, Repr

/-- The 24 commands. The operand fields are those of R81. -/
inductive Instr where
  | csClr
  | csPush (b : Byte)
  | csGet
  | direct (b : Byte)
  | subcmd (h : Half)
  | subrsp
  | dmread (addr : Half)
  | dmwrite (addr : Half) (val : Byte)
  | cuEnter
  | cuExit
  | cellv (idx : BitVec 5)
  | allcellv
  | current
  | itemp
  | therm (ch : Thermistor)
  | prot
  | tempstat
  | ischg
  | isdsg
  | decProt (b : Byte)
  | decTemp (b : Byte)
  | decFet (b : Byte)
  | setfet (target : FetTarget) (state : FetState)
  | setcov (mv : Half) (ms : Half)
deriving DecidableEq, Repr

/-- DEVRESET (R90). -/
def Instr.devreset : Instr := .subcmd Config.scReset

/-- STACKV (R90, R147). -/
def Instr.stackv : Instr := .direct Config.opStackv

/-- PACKV (R90, R147). -/
def Instr.packv : Instr := .direct Config.opPackv

/-- CHECKSUM b1, ..., bn with `n >= 1` (R90): CS_CLR, the pushes in order, CS_GET. -/
def Instr.checksum (b1 : Byte) (rest : List Byte) : List Instr :=
  .csClr :: (b1 :: rest).map .csPush ++ [.csGet]

end Sys2Proof
end

