-- ==== Sys2Proof/WellFormed.lean ====
section
/-! DEFINITION. The operand conditions of a legal word that the types of Syntax.lean do not carry
(30_encoding.md R83, last column but one). -/

namespace Sys2Proof

/-- Condition (c) of R84. `ch` and `target` are closed variants, so R85 (f) and (g) cannot be written as terms. -/
def Instr.wf : Instr → Bool
  | .direct b => b ≤ 0x7F
  | .subcmd h => h != Config.scCuEnter && h != Config.scCuExit
  | .cellv idx => 1 ≤ idx && idx ≤ 16
  | .csClr | .csPush _ | .csGet | .subrsp | .dmread _ | .dmwrite _ _ | .cuEnter | .cuExit | .allcellv | .current
  | .itemp | .therm _ | .prot | .tempstat | .ischg | .isdsg | .decProt _ | .decTemp _ | .decFet _ | .setfet _ _
  | .setcov _ _ => true

end Sys2Proof
end

