-- ==== Sys2Proof/Decode.lean ====
section
/-! DEFINITION. Decoding and encoding of the 40-bit command word (30_encoding.md R80 to R86), the opcode table as data
(R83, R86), and the assembler text of R89. -/

namespace Sys2Proof

/-- `opcode = w[39:32]` (R81). -/
def opcodeOf (w : CmdWord) : Byte := w.extractLsb' 32 8

/-- `operand = w[31:0]` (R81). -/
def operandOf (w : CmdWord) : Word := w.extractLsb' 0 32

/-- Format N: no operand, every operand bit zero. -/
def formatN (x : Word) (i : Instr) : Option Instr := if x = 0 then some i else none

/-- Format B: `b = w[7:0]`. -/
def formatB (x : Word) (f : Byte → Instr) : Option Instr :=
  if x.extractLsb' 8 24 = 0 then some (f (x.extractLsb' 0 8)) else none

/-- Format H: `h = w[15:0]`. -/
def formatH (x : Word) (f : Half → Instr) : Option Instr :=
  if x.extractLsb' 16 16 = 0 then some (f (x.extractLsb' 0 16)) else none

/-- Format AV: `addr = w[15:0]`, `val = w[23:16]`. -/
def formatAV (x : Word) (f : Half → Byte → Instr) : Option Instr :=
  if x.extractLsb' 24 8 = 0 then some (f (x.extractLsb' 0 16) (x.extractLsb' 16 8)) else none

/-- Format I: `idx = w[4:0]`. -/
def formatI (x : Word) (f : BitVec 5 → Instr) : Option Instr :=
  if x.extractLsb' 5 27 = 0 then some (f (x.extractLsb' 0 5)) else none

/-- The channel named by `ch` (R82); 6 and 7 name none (R85 (f)). -/
def thermistorOf (ch : BitVec 3) : Option Thermistor :=
  match ch.toNat with
  | 0 => some .ts1
  | 1 => some .ts2
  | 2 => some .ts3
  | 3 => some .hdq
  | 4 => some .dchg
  | 5 => some .ddsg
  | _ => none

/-- Format C: `ch = w[2:0]`. -/
def formatC (x : Word) (f : Thermistor → Instr) : Option Instr :=
  if x.extractLsb' 3 29 = 0 then (thermistorOf (x.extractLsb' 0 3)).map f else none

/-- The target named by `target` (R82); 3 names none (R85 (g)). -/
def fetTargetOf (t : BitVec 2) : Option FetTarget :=
  match t.toNat with
  | 0 => some .chg
  | 1 => some .dch
  | 2 => some .all
  | _ => none

/-- The state named by bit `state` (R82). -/
def fetStateOf (on : Bool) : FetState := if on then .on else .off

/-- Format F: `target = w[1:0]`, `state = w[2]`. -/
def formatF (x : Word) (f : FetTarget → FetState → Instr) : Option Instr :=
  if x.extractLsb' 3 29 = 0 then (fetTargetOf (x.extractLsb' 0 2)).map (f · (fetStateOf (x.getLsbD 2))) else none

/-- Format M: `mv = w[15:0]`, `ms = w[31:16]`; no bit must be zero. -/
def formatM (x : Word) (f : Half → Half → Instr) : Option Instr :=
  some (f (x.extractLsb' 0 16) (x.extractLsb' 16 16))

/-- Conditions (a) and (b) of R84: the opcode map of R83 and the must-be-zero bits of R81. -/
def decodeFields (w : CmdWord) : Option Instr :=
  match (opcodeOf w).toNat with
  | 0x01 => formatN (operandOf w) .csClr
  | 0x02 => formatB (operandOf w) .csPush
  | 0x03 => formatN (operandOf w) .csGet
  | 0x10 => formatB (operandOf w) .direct
  | 0x11 => formatH (operandOf w) .subcmd
  | 0x12 => formatN (operandOf w) .subrsp
  | 0x13 => formatH (operandOf w) .dmread
  | 0x14 => formatAV (operandOf w) .dmwrite
  | 0x20 => formatN (operandOf w) .cuEnter
  | 0x21 => formatN (operandOf w) .cuExit
  | 0x30 => formatI (operandOf w) .cellv
  | 0x31 => formatN (operandOf w) .allcellv
  | 0x32 => formatN (operandOf w) .current
  | 0x33 => formatN (operandOf w) .itemp
  | 0x34 => formatC (operandOf w) .therm
  | 0x40 => formatN (operandOf w) .prot
  | 0x41 => formatN (operandOf w) .tempstat
  | 0x42 => formatN (operandOf w) .ischg
  | 0x43 => formatN (operandOf w) .isdsg
  | 0x44 => formatB (operandOf w) .decProt
  | 0x45 => formatB (operandOf w) .decTemp
  | 0x46 => formatB (operandOf w) .decFet
  | 0x50 => formatF (operandOf w) .setfet
  | 0x51 => formatM (operandOf w) .setcov
  | _ => none

/-- Decoding, total on any 40-bit word (R84): conditions (a) and (b), then (c). `none` is an illegal word. -/
def decode (w : CmdWord) : Option Instr := (decodeFields w).filter Instr.wf

/-- The opcode of a command (R83). -/
def Instr.opcode : Instr → Byte
  | .csClr => 0x01
  | .csPush _ => 0x02
  | .csGet => 0x03
  | .direct _ => 0x10
  | .subcmd _ => 0x11
  | .subrsp => 0x12
  | .dmread _ => 0x13
  | .dmwrite _ _ => 0x14
  | .cuEnter => 0x20
  | .cuExit => 0x21
  | .cellv _ => 0x30
  | .allcellv => 0x31
  | .current => 0x32
  | .itemp => 0x33
  | .therm _ => 0x34
  | .prot => 0x40
  | .tempstat => 0x41
  | .ischg => 0x42
  | .isdsg => 0x43
  | .decProt _ => 0x44
  | .decTemp _ => 0x45
  | .decFet _ => 0x46
  | .setfet _ _ => 0x50
  | .setcov _ _ => 0x51

/-- `ch` of a channel (R82). -/
def Thermistor.code : Thermistor → BitVec 3
  | .ts1 => 0
  | .ts2 => 1
  | .ts3 => 2
  | .hdq => 3
  | .dchg => 4
  | .ddsg => 5

/-- `target` of a FET target (R82). -/
def FetTarget.code : FetTarget → BitVec 2
  | .chg => 0
  | .dch => 1
  | .all => 2

/-- `state` of a FET state (R82). -/
def FetState.code : FetState → BitVec 1
  | .off => 0
  | .on => 1

/-- A field at bit `lo` of a 32-bit word that is zero elsewhere. -/
def placed {n : Nat} (v : BitVec n) (lo : Nat) : Word := v.setWidth 32 <<< lo

/-- The operand word of a command: the fields of its format (R81), every other bit zero. -/
def Instr.operand : Instr → Word
  | .csClr | .csGet | .subrsp | .cuEnter | .cuExit | .allcellv | .current | .itemp | .prot | .tempstat | .ischg
  | .isdsg => 0
  | .csPush b | .direct b | .decProt b | .decTemp b | .decFet b => placed b 0
  | .subcmd h | .dmread h => placed h 0
  | .dmwrite addr val => placed addr 0 ||| placed val 16
  | .cellv idx => placed idx 0
  | .therm ch => placed ch.code 0
  | .setfet target state => placed target.code 0 ||| placed state.code 2
  | .setcov mv ms => placed mv 0 ||| placed ms 16

/-- The word of a command (R81). -/
def encode (i : Instr) : CmdWord := i.opcode ++ i.operand

/-- One row of the opcode table (R86): `mnemonic`, `match` and `mask`, and `constraint` on the word. -/
structure OpcodeRow where
  mnemonic : String
  matchBits : CmdWord
  mask : CmdWord
  constraint : CmdWord → Bool

/-- A row with no constraint beyond its mask. -/
def OpcodeRow.plain (mnemonic : String) (matchBits mask : CmdWord) : OpcodeRow :=
  ⟨mnemonic, matchBits, mask, fun _ => true⟩

/-- Whether a word belongs to a row: the mask test and the row's constraint (R86). -/
def OpcodeRow.holds (r : OpcodeRow) (w : CmdWord) : Bool := (w &&& r.mask == r.matchBits) && r.constraint w

/-- spec/opcode_table.json, row by row: the second, independent account of legality (R86). -/
def opcodeTable : List OpcodeRow :=
  [ .plain "CS_CLR" 0x0100000000 0xFFFFFFFFFF,
    .plain "CS_PUSH" 0x0200000000 0xFFFFFFFF00,
    .plain "CS_GET" 0x0300000000 0xFFFFFFFFFF,
    .plain "DIRECT" 0x1000000000 0xFFFFFFFF80,
    ⟨"SUBCMD", 0x1100000000, 0xFFFFFF0000, fun w => w.extractLsb' 0 16 != 0x0090 && w.extractLsb' 0 16 != 0x0092⟩,
    .plain "SUBRSP" 0x1200000000 0xFFFFFFFFFF,
    .plain "DMREAD" 0x1300000000 0xFFFFFF0000,
    .plain "DMWRITE" 0x1400000000 0xFFFF000000,
    .plain "CU_ENTER" 0x2000000000 0xFFFFFFFFFF,
    .plain "CU_EXIT" 0x2100000000 0xFFFFFFFFFF ] ++
  [ ⟨"CELLV", 0x3000000000, 0xFFFFFFFFE0, fun w => 1 ≤ (w.extractLsb' 0 5).toNat && (w.extractLsb' 0 5).toNat ≤ 16⟩,
    .plain "ALLCELLV" 0x3100000000 0xFFFFFFFFFF,
    .plain "CURRENT" 0x3200000000 0xFFFFFFFFFF,
    .plain "ITEMP" 0x3300000000 0xFFFFFFFFFF,
    ⟨"THERM", 0x3400000000, 0xFFFFFFFFF8, fun w => (w.extractLsb' 0 3).toNat ≤ 5⟩,
    .plain "PROT" 0x4000000000 0xFFFFFFFFFF,
    .plain "TEMPSTAT" 0x4100000000 0xFFFFFFFFFF,
    .plain "ISCHG" 0x4200000000 0xFFFFFFFFFF,
    .plain "ISDSG" 0x4300000000 0xFFFFFFFFFF,
    .plain "DEC_PROT" 0x4400000000 0xFFFFFFFF00,
    .plain "DEC_TEMP" 0x4500000000 0xFFFFFFFF00,
    .plain "DEC_FET" 0x4600000000 0xFFFFFFFF00,
    ⟨"SETFET", 0x5000000000, 0xFFFFFFFFF8, fun w => (w.extractLsb' 0 2).toNat ≤ 2⟩,
    .plain "SETCOV" 0x5100000000 0xFF00000000 ]

/-- The instruction the decoder reads from a word numbered as spec/opcode_table.json numbers it. Every row has 40 bits,
bit 0 the least significant of the one word; the host hands the word over whole at the command port (R26), so there is
no byte order to lay it out in. Log entry 11. -/
def decodeTableWord (nbits w : Nat) : Option Instr :=
  if nbits ≤ 40 then decode (BitVec.ofNat 40 (w % 2 ^ nbits)) else none

/-- The mnemonic of a command (R83, R89). -/
def Instr.mnemonic : Instr → String
  | .csClr => "CS_CLR"
  | .csPush _ => "CS_PUSH"
  | .csGet => "CS_GET"
  | .direct _ => "DIRECT"
  | .subcmd _ => "SUBCMD"
  | .subrsp => "SUBRSP"
  | .dmread _ => "DMREAD"
  | .dmwrite _ _ => "DMWRITE"
  | .cuEnter => "CU_ENTER"
  | .cuExit => "CU_EXIT"
  | .cellv _ => "CELLV"
  | .allcellv => "ALLCELLV"
  | .current => "CURRENT"
  | .itemp => "ITEMP"
  | .therm _ => "THERM"
  | .prot => "PROT"
  | .tempstat => "TEMPSTAT"
  | .ischg => "ISCHG"
  | .isdsg => "ISDSG"
  | .decProt _ => "DEC_PROT"
  | .decTemp _ => "DEC_TEMP"
  | .decFet _ => "DEC_FET"
  | .setfet _ _ => "SETFET"
  | .setcov _ _ => "SETCOV"

/-- The symbolic operand of a channel (R89). -/
def Thermistor.name : Thermistor → String
  | .ts1 => "TS1"
  | .ts2 => "TS2"
  | .ts3 => "TS3"
  | .hdq => "HDQ"
  | .dchg => "DCHG"
  | .ddsg => "DDSG"

/-- The symbolic operand of a FET target (R89). -/
def FetTarget.name : FetTarget → String
  | .chg => "CHG"
  | .dch => "DCH"
  | .all => "ALL"

/-- The symbolic operand of a FET state (R89). -/
def FetState.name : FetState → String
  | .off => "OFF"
  | .on => "ON"

/-- The operands of a command in the order of the source's contract (R89), numbers in decimal. -/
def Instr.operandTexts : Instr → List String
  | .csPush b | .direct b | .decProt b | .decTemp b | .decFet b => [toString b.toNat]
  | .subcmd h | .dmread h => [toString h.toNat]
  | .dmwrite addr val => [toString addr.toNat, toString val.toNat]
  | .cellv idx => [toString idx.toNat]
  | .therm ch => [ch.name]
  | .setfet target state => [target.name, state.name]
  | .setcov mv ms => [toString mv.toNat, toString ms.toNat]
  | .csClr | .csGet | .subrsp | .cuEnter | .cuExit | .allcellv | .current | .itemp | .prot | .tempstat | .ischg
  | .isdsg => []

/-- A command in the assembler syntax of R89: the mnemonic, a space, the operands separated by commas. -/
def Instr.assembly (i : Instr) : String :=
  match i.operandTexts with
  | [] => i.mnemonic
  | ops => i.mnemonic ++ " " ++ String.intercalate ", " ops

/-- A command word as R89 writes it: ten hexadecimal digits, the opcode first. -/
def wordText (w : CmdWord) : String := "0x" ++ w.toHex

end Sys2Proof
end

