-- ==== Sys2Proof/Machine/State.lean ====
section
/-! DEFINITION. The state of CCA (10_state.md R20 to R34), the outside world as plain data (00_scope.md R12, R13), the
state after reset (R37), and the reasons a step can stop. -/

namespace Sys2Proof.Machine

/-- Outcome of the most recent command (R23, R180). Code 3 is never produced, so it has no constructor. -/
inductive Err where
  | ok | busNack | illegal
deriving DecidableEq, Repr

/-- The CUSM shadow (R28, R120). -/
inductive CuMode where
  | exited | entered
deriving DecidableEq, Repr

/-- A request CCA makes of the transport or the timer (R12, R192, R193). -/
inductive Request where
  /-- One write transaction of the bytes in order, to an endpoint. -/
  | write (endpoint : Byte) (bytes : List Byte)
  /-- One read of exactly `count` bytes from an endpoint. -/
  | read (endpoint : Byte) (count : Nat)
  /-- A pause of at least `us` microseconds. -/
  | delay (us : Nat)
deriving DecidableEq, Repr

/-- An answer to a request (R12). -/
inductive Answer where
  /-- The transport's answer to a write: `true` for ACK, `false` for NACK. -/
  | wrote (ok : Bool)
  /-- The bytes of a read, the first received first. -/
  | data (bytes : List Byte)
  /-- The timer reports the delay over. -/
  | delayOver
deriving DecidableEq, Repr

/-- One thing the outside does to CCA. Log entry 2. -/
inductive Input where
  /-- A host presents a command word at the command port (R25). -/
  | present (w : CmdWord)
  /-- The transport or the timer answers (R12). -/
  | answer (a : Answer)
  /-- The event `Reset` (R37, R200). -/
  | reset
  /-- The platform brings the transport back to idle (R201). -/
  | transportReset
  /-- A host reads a register through the read port (R22). -/
  | hostRead (n : RegNo)
  /-- A moment in which nothing arrives: time for CCA to accept a waiting word before what comes next. Log entry 16. -/
  | pause
deriving DecidableEq, Repr

/-- One entry of the trace (R13): the event `BW[b0 ..] -> ACK` is a `request` followed by its `answered`, and so for
`BR` and `DLY`. Log entry 4. -/
inductive Event where
  | accept (w : CmdWord)
  | request (r : Request)
  | answered (a : Answer)
  | done (err : Err) (fstep : BitVec 6)
  | reset
  | transportReset
  /-- An answer that CCA discards (R187 (c), R201). -/
  | discarded (a : Answer)
  | hostRead (n : RegNo) (v : Word)
deriving DecidableEq, Repr

/-- The machine. The first sixteen fields are the state R20 names; the rest are the model's own (INVENTORY.md, State). -/
structure State where
  /-- A command is running (R23, R25). -/
  busy : Bool
  /-- The spec's `step` (R24): the number of the event awaited, 0 when none. -/
  stepNo : BitVec 6
  /-- The command word being executed (R26). -/
  cmd : CmdWord
  /-- The answer of the ENTER or EXIT write while its delay runs (R28). -/
  mack : Bool
  /-- STATUS.err (R23). -/
  err : Err
  /-- STATUS.fstep (R23). -/
  fstep : BitVec 6
  /-- The checksum accumulator (R27). -/
  acc : Byte
  /-- Whether a first byte has been folded in (R27). -/
  seeded : Bool
  /-- The CUSM shadow (R28). -/
  cuMode : CuMode
  /-- RESULT (R29). -/
  result : Word
  /-- RAW (R30). -/
  raw : Half
  /-- PROTF (R31). -/
  protf : BitVec 6
  /-- TEMPF (R32). -/
  tempf : BitVec 7
  /-- FETF (R33). -/
  fetf : BitVec 2
  /-- CELL[1] to CELL[16] (R34), CELL[i] at index i - 1. -/
  cells : Vector Half 16
  /-- The open parameters (R9); nothing writes them. Log entry 1. -/
  params : Config.Params
  /-- The request outstanding at the transport or the timer (R36). Log entry 5. -/
  pending : Option Request
  /-- Requests abandoned by a Reset and not yet answered (R201), oldest first. Log entry 6. -/
  late : List Request
  /-- Words hosts are holding at the command port (R25), the next one first. Log entry 11. -/
  port : List CmdWord
  /-- What the outside will do, the next thing first. Log entry 2. -/
  inputs : List Input
  /-- The interface events so far (R13), the oldest first. Log entry 4. -/
  trace : List Event
  /-- How many free values have been drawn (R38). Log entry 8. -/
  draws : Nat
deriving DecidableEq, Repr

/-- Why the machine stops with a fault. Both stand for states that no run reaches (log entry 12). -/
inductive Fault where
  /-- Raised by a command's meaning when `step` names no row of that command's step table. Safe. -/
  | noSuchStep
  /-- Raised by `step` when an answer arrives for a command word that is not legal. Safe. -/
  | noCommand
deriving DecidableEq, Repr

/-- Why the model gives no meaning. -/
inductive Refusal where
  /-- Raised by `exec` for an instruction with no meaning yet; no arm raises it now. Safe. -/
  | notModelled (mnemonic : String)
deriving DecidableEq, Repr

/-- What one step of this machine answers. -/
abbrev Result := Host.Outcome State Fault Refusal

/-- The machine right after `Reset` (R37): every register at the value of R37's table, the parameters at their
defaults (R9), nothing outstanding, nothing presented. -/
def State.reset : State where
  busy := false
  stepNo := 0
  cmd := 0
  mack := false
  err := .ok
  fstep := 0
  acc := 0x00
  seeded := false
  cuMode := .exited
  result := 0
  raw := 0
  protf := 0
  tempf := 0
  fetf := 0
  cells := Vector.replicate 16 0
  params := Config.Params.default
  pending := none
  late := []
  port := []
  inputs := []
  trace := []
  draws := 0

end Sys2Proof.Machine
end

