-- ==== Sys2Proof/Machine/Flags.lean ====
section
/-! DEFINITION. Flags and register views: RDEC (45_status_decode.md R150 to R155), the STATUS and CSUM words and the
host register file (10_state.md R22, R23, R38). -/

namespace Sys2Proof.Machine

/-- Flags packed into a value of `n` bits, the first flag in bit 0 (R31 to R33). -/
def packFlags (n : Nat) (flags : List Bool) : BitVec n := (BitVec.ofBoolListLE flags).setWidth n

/-- `dec_prot(b)` (R151): PROTF bits 0 to 5. -/
def decProt (p : Config.ProtPos) (b : Byte) : BitVec 6 :=
  packFlags 6
    [ b.getLsbD p.scDchg, b.getLsbD p.oc1Dchg, b.getLsbD p.oc2Dchg, b.getLsbD p.ocChg,
      b.getLsbD Config.protBitCellOv, b.getLsbD Config.protBitCellUv ]

/-- `dec_temp(b)` (R153): TEMPF bits 0 to 6. -/
def decTemp (p : Config.TempPos) (b : Byte) : BitVec 7 :=
  packFlags 7
    [ b.getLsbD p.otFet, b.getLsbD p.otInt, b.getLsbD p.otDchg, b.getLsbD p.otChg, b.getLsbD p.utInt,
      b.getLsbD p.utDchg, b.getLsbD p.utChg ]

/-- `dec_fet(b)` (R155): FETF[0] is bit 0, FETF[1] is bit 2. -/
def decFet (b : Byte) : BitVec 2 := packFlags 2 [b.getLsbD Config.fetBitChg, b.getLsbD Config.fetBitDsg]

/-- The two bits of STATUS.err (R23). -/
def Err.code : Err → BitVec 2
  | .ok => 0
  | .busNack => 1
  | .illegal => 2

/-- The bit of STATUS.cu_mode (R23). -/
def CuMode.code : CuMode → BitVec 1
  | .exited => 0
  | .entered => 1

/-- STATUS, register 0 (R23). -/
def State.statusWord (s : State) : Word :=
  placed (BitVec.ofBool s.busy) 0 ||| placed s.err.code 1 ||| placed s.cuMode.code 3 |||
    placed (BitVec.ofBool s.seeded) 4 ||| placed s.fstep 8

/-- CSUM, register 3 (R22): `acc`, `ck = ~acc`, `seeded`. -/
def State.csumWord (s : State) : Word :=
  placed s.acc 0 ||| placed (~~~s.acc) 8 ||| placed (BitVec.ofBool s.seeded) 16

/-- The host register file (R22), as it reads when `busy = 0`. -/
def State.register (s : State) (n : RegNo) : Word :=
  match n.toNat with
  | 0 => s.statusWord
  | 1 => s.result
  | 2 => s.raw.setWidth 32
  | 3 => s.csumWord
  | 4 => s.protf.setWidth 32
  | 5 => s.tempf.setWidth 32
  | 6 => s.fetf.setWidth 32
  | k => if 16 ≤ k then (s.cells.toList.getD (k - 16) 0).setWidth 32 else 0

/-- The used bits of a register (R22, R23); every other bit reads as zero always (R39 (f)). -/
def usedBits (n : RegNo) : Word :=
  match n.toNat with
  | 0 => 0x00003F1F
  | 1 => 0xFFFFFFFF
  | 2 => 0x0000FFFF
  | 3 => 0x0001FFFF
  | 4 => 0x0000003F
  | 5 => 0x0000007F
  | 6 => 0x00000003
  | k => if 16 ≤ k then 0x0000FFFF else 0

/-- What a host read returns (R38): the register when idle; while busy, STATUS shows the true `busy` and every other
used bit is a free value. Log entry 8. -/
def State.hostRead (s : State) (n : RegNo) : Word :=
  if s.busy then
    let v := Config.busyReadValue s.draws &&& usedBits n
    if n = 0 then v ||| 1 else v
  else s.register n

end Sys2Proof.Machine
end

