-- ==== Sys2Proof/Machine/Operands.lean ====
section
/-! DEFINITION. What commands compute from their operands: byte order (20_memory.md R56), bus frames (30_encoding.md
R87), the checksum arithmetic (40_checksum.md R100, R103), opcode functions (44_measurement.md R140, R146), the FET code
map and the SETCOV scalings (46_configuration.md R170 to R173), and the temperature conversion (R144). -/

namespace Sys2Proof.Machine

/-- `lo8(v)` (R10). -/
def lo8 (v : Half) : Byte := v.extractLsb' 0 8

/-- `hi8(v)` (R10). -/
def hi8 (v : Half) : Byte := v.extractLsb' 8 8

/-- The word of two received bytes, the first one low (R30, R56). -/
def assemble (r0 r1 : Byte) : Half := r1 ++ r0

/-- A bus write: always to endpoint `DEV_WR` (R55, R87). -/
def busWrite (bytes : List Byte) : Request := .write Config.devWr bytes

/-- A bus read of `n` bytes: always from endpoint `DEV_RD` (R55, R87). -/
def busRead (n : Nat) : Request := .read Config.devRd n

/-- Frame DC(op) (R87). -/
def frameDC (op : Byte) : Request := busWrite [op]

/-- Frame SC(code) (R87). -/
def frameSC (code : Half) : Request := busWrite [Config.selCtrl, lo8 code, hi8 code]

/-- Frame DMA(addr) (R87). -/
def frameDMA (addr : Half) : Request := busWrite [Config.selCtrl, lo8 addr, hi8 addr]

/-- Frame DMW(addr, val) (R87). -/
def frameDMW (addr : Half) (val : Byte) : Request := busWrite [Config.selCtrl, lo8 addr, hi8 addr, val]

/-- Frame CKL(ck) (R87, R88). -/
def frameCKL (ck : Byte) : Request := busWrite [Config.selCklen, ck, Config.dmLen]

/-- Frame RSP (R87). -/
def frameRSP : Request := busWrite [Config.selResp]

/-- The ENTER subcommand write (R121). -/
def frameEnter : Request := frameSC Config.scCuEnter

/-- The EXIT subcommand write (R122). -/
def frameExit : Request := frameSC Config.scCuExit

/-- The settle delay after ENTER (R66, R121). -/
def settleEnter : Request := .delay Config.tEnterUs

/-- The settle delay after EXIT (R66, R122). -/
def settleExit : Request := .delay Config.tExitUs

/-- A request that uses the bus transport, as against the timer. -/
def Request.isBus : Request → Bool
  | .write _ _ | .read _ _ => true
  | .delay _ => false

/-- Whether an answer is an answer to a request (R192 (b), (c), R193). -/
def Request.answeredBy : Request → Answer → Bool
  | .write _ _, .wrote _ => true
  | .read _ n, .data bytes => bytes.length == n
  | .delay _, .delayOver => true
  | .write _ _, .data _ | .write _ _, .delayOver | .read _ _, .wrote _ | .read _ _, .delayOver | .delay _, .wrote _
  | .delay _, .data _ => false

/-- `fold(a, b) = (~a + b) mod 256` (R100). -/
def csumFold (a b : Byte) : Byte := ~~~a + b

/-- The accumulator after the bytes `b1, rest` (R103); the sequence is not empty. -/
def csumAcc (b1 : Byte) (rest : List Byte) : Byte := rest.foldl csumFold b1

/-- ChecksumByte of a non-empty byte sequence (R103). -/
def checksumByte (b1 : Byte) (rest : List Byte) : Byte := ~~~(csumAcc b1 rest)

/-- The bytes after `DEV_WR` that the checksum of a Data-Memory write covers (R133). -/
def dmChecksumTail (addr : Half) (val : Byte) : List Byte := [Config.selCtrl, lo8 addr, hi8 addr, val]

/-- `CELL_NO_TO_ADDR(i)` for `1 <= i <= 16` (R140). -/
def cellOpcode (i : Nat) : Byte := BitVec.ofNat 8 (Config.opCell1.toNat + (i - 1) * 2)

/-- The fixed per-channel opcode table (R146). -/
def thermOpcode : Thermistor → Byte
  | .ts1 => Config.opTs1
  | .ts2 => Config.opTs2
  | .ts3 => Config.opTs3
  | .hdq => Config.opHdq
  | .dchg => Config.opDchg
  | .ddsg => Config.opDdsg

/-- `fet_code(target, state)` (R170). -/
def fetCode : FetTarget → FetState → Half
  | .chg, .off => Config.scChgOff
  | .dch, .off => Config.scDsgOff
  | .all, .off => Config.scAllOff
  | .chg, .on => Config.scAllOn
  | .dch, .on => Config.scAllOn
  | .all, .on => Config.scAllOn

/-- `cov_thresh(mv)` (R172): round to nearest of mv / 50.6, replaced by the default when out of range. -/
def covThresh (mv : Half) : Byte :=
  let q := (10 * mv.toNat + 253) / 506
  BitVec.ofNat 8 (if Config.covRawMin ≤ q ∧ q ≤ Config.covRawMax then q else Config.covRawDefault)

/-- The validated delay `v` of R173, at full width. -/
def covDelayFull (ms : Half) : Int :=
  let r : Int := (20 * (ms.toNat : Int) + 33) / 66 - 2
  if Config.covDlyMin ≤ r ∧ r ≤ Config.covDlyMax then r else Config.covDlyDefault

/-- `cov_delay(ms)` (R173): the low byte of the validated delay. -/
def covDelay (ms : Half) : Byte := BitVec.ofInt 8 (covDelayFull ms)

/-- `centi_celsius(raw)` as a 32-bit two's-complement value (R144). -/
def centiCelsius (raw : Half) : Word := BitVec.ofInt 32 (10 * (raw.toNat : Int) - 27315)

/-- Whether a command makes interface events (R25, R58). Every one that does begins with a bus write. -/
def usesBus : Instr → Bool
  | .csClr | .csPush _ | .csGet | .decProt _ | .decTemp _ | .decFet _ => false
  | .direct _ | .subcmd _ | .subrsp | .dmread _ | .dmwrite _ _ | .cuEnter | .cuExit | .cellv _ | .allcellv | .current
  | .itemp | .therm _ | .prot | .tempstat | .ischg | .isdsg | .setfet _ _ | .setcov _ _ => true

end Sys2Proof.Machine
end

