-- ==== Sys2Proof/Machine/Ops.lean ====
section
/-! DEFINITION. The shared operations of the step tables: acceptance, issuing an event, taking its answer, recording an
outcome, `done` (00_scope.md R11, R12; 10_state.md R24, R25; 60_exceptions.md R180 to R182), the checksum unit
(40_checksum.md), `direct_read` (41_direct_subcommand.md R110), ENTER and EXIT (42_config_update.md R121, R122) and
`dm_write_seq` (43_data_memory.md R132). -/

namespace Sys2Proof.Machine

/-- Append one event to the trace (R13). -/
def State.log (s : State) (e : Event) : State := { s with trace := s.trace ++ [e] }

/-- What every legal command does at its acceptance (R25): `err <- OK`, `fstep <- 0`. -/
def State.begin (s : State) : State := { s with err := .ok, fstep := 0 }

/-- Issue the event of step `n` and await its answer (R24): `step <- n`. -/
def State.issue (s : State) (n : Nat) (r : Request) : State :=
  { s with stepNo := BitVec.ofNat 6 n, pending := some r, trace := s.trace ++ [.request r] }

/-- Acceptance of a command that has interface events (R25): `busy <- 1`, step 1 issued. -/
def State.start (s : State) (r : Request) : State := { s.begin with busy := true }.issue 1 r

/-- `done` (R11, R25): `busy <- 0; step <- 0`, event `Done(err, fstep)`. -/
def State.finish (s : State) : State :=
  { s with busy := false, stepNo := 0, trace := s.trace ++ [.done s.err s.fstep] }

/-- `raise Illegal` (R11, R182): taking the exception of this hardware. `err` and `fstep` are written, the event
`Done(ILLEGAL, 0)` follows, nothing else changes. -/
def State.raiseIllegal (s : State) : State :=
  { s with err := .illegal, fstep := 0, trace := s.trace ++ [.done .illegal 0] }

/-- `if ok == 0 then note_nack(n)` (R11, R181): the first refusal of a command is the one recorded. -/
def State.noteNack (s : State) (n : Nat) (ok : Bool) : State :=
  if ok then s else if s.err = .ok then { s with err := .busNack, fstep := BitVec.ofNat 6 n } else s

/-- The outstanding request is answered by `a`; `rest` is what the outside does next. -/
def State.take (s : State) (a : Answer) (rest : List Input) : State :=
  { s with inputs := rest, pending := none, trace := s.trace ++ [.answered a] }

/-- The answer of a `BusWrite`: `k` is applied to `ok`. Until it arrives CCA stays in the step (R190). -/
def onWrite (s : State) (k : Bool → State → State) : Result :=
  match s.inputs with
  | .answer (.wrote ok) :: rest => .next (k ok (s.take (.wrote ok) rest))
  | _ => .next s

/-- The answer of a `BusRead(2)`: RAW is written first (R30). -/
def onRead2 (s : State) (k : State → State) : Result :=
  match s.inputs with
  | .answer (.data [r0, r1]) :: rest => .next (k { s.take (.data [r0, r1]) rest with raw := assemble r0 r1 })
  | _ => .next s

/-- The answer of a `BusRead(1)`: RAW is written first (R30); `k` is applied to the byte. -/
def onRead1 (s : State) (k : Byte → State → State) : Result :=
  match s.inputs with
  | .answer (.data [r0]) :: rest => .next (k r0 { s.take (.data [r0]) rest with raw := r0.setWidth 16 })
  | _ => .next s

/-- The end of a `Delay` (R193). -/
def onDelay (s : State) (k : State → State) : Result :=
  match s.inputs with
  | .answer .delayOver :: rest => .next (k (s.take .delayOver rest))
  | _ => .next s

/-- `reg.RESULT <- v` (R29). -/
def State.setResult (s : State) (v : Word) : State := { s with result := v }

/-- `reg.acc <- 0x00; reg.seeded <- 0` (R101). -/
def State.csumClear (s : State) : State := { s with acc := 0x00, seeded := false }

/-- Push one byte into CSUM (R102): the first seeds, a later one folds. -/
def State.csumPush (s : State) (b : Byte) : State :=
  { s with acc := if s.seeded then csumFold s.acc b else b, seeded := true }

/-- `csum_load(addr, val)` (R133): clear, then the five bytes of a Data-Memory write. -/
def State.csumLoad (s : State) (addr : Half) (val : Byte) : State :=
  (Config.devWr :: dmChecksumTail addr val).foldl State.csumPush s.csumClear

/-- `direct_read(op, 1)` as a whole command (R110): steps 1 and 2, then `fin` and `done`. The read is issued whatever
the write's answer. -/
def directRead (op : Byte) (fin : State → State) (s : State) : Result :=
  match s.stepNo.toNat with
  | 0 => .next (s.start (frameDC op))
  | 1 => onWrite s fun ok t => (t.noteNack 1 ok).issue 2 (busRead 2)
  | 2 => onRead2 s fun t => (fin t).finish
  | _ => .fault .noSuchStep

/-- A single bus write as a whole command (R112, R171): step 1, then `done`. -/
def singleWrite (r : Request) (s : State) : Result :=
  match s.stepNo.toNat with
  | 0 => .next (s.start r)
  | 1 => onWrite s fun ok t => (t.noteNack 1 ok).finish
  | _ => .fault .noSuchStep

/-- The answer of an ENTER or EXIT write at step `n` (R121, R122): `mack <- ok`, then the settle delay, whatever the
answer (R123 (a)). -/
def modeWrite (n : Nat) (settle : Request) (s : State) : Result :=
  onWrite s fun ok t => ({ t with mack := ok }.noteNack n ok).issue (n + 1) settle

/-- The end of a settle delay (R121, R122, R123): the shadow changes if the write was acknowledged. -/
def State.settle (s : State) (m : CuMode) : State := if s.mack then { s with cuMode := m } else s

/-- `dm_write_seq(addr, val, n)` from the answer of its first step on (R132, R134). `k` counts its rows from 0; `fin`
is what follows its end. The failure policy is in the rows: a refused write jumps to the EXIT write. -/
def dmWriteSeq (addr : Half) (val : Byte) (n k : Nat) (fin : State → State) (s : State) : Result :=
  match k with
  | 0 => modeWrite n settleEnter s
  | 1 => onDelay s fun t =>
      if t.mack then (t.settle .entered).issue (n + 2) (frameDMW addr val) else t.issue (n + 4) frameExit
  | 2 => onWrite s fun ok t =>
      if ok then t.issue (n + 3) (frameCKL (~~~t.acc)) else (t.noteNack (n + 2) ok).issue (n + 4) frameExit
  | 3 => onWrite s fun ok t => (t.noteNack (n + 3) ok).issue (n + 4) frameExit
  | 4 => modeWrite (n + 4) settleExit s
  | 5 => onDelay s fun t => fin (t.settle .exited)
  | _ => .fault .noSuchStep

end Sys2Proof.Machine
end

