-- ==== Sys2Proof/Machine/Checksum.lean ====
section
/-! DEFINITION. CS_CLR, CS_PUSH, CS_GET (40_checksum.md R101, R102, R104). No interface event: each completes inside
the acceptance transition (10_state.md R25). -/

namespace Sys2Proof.Machine

/-- CS_CLR (R101). -/
def execCsClr (s : State) : Result := .next s.begin.csumClear.finish

/-- CS_PUSH b (R102). -/
def execCsPush (b : Byte) (s : State) : Result := .next (s.begin.csumPush b).finish

/-- CS_GET (R104): ILLEGAL when no byte has been pushed since the last clear. -/
def execCsGet (s : State) : Result :=
  .next (if s.seeded then (s.begin.setResult ((~~~s.acc).setWidth 32)).finish else s.raiseIllegal)

end Sys2Proof.Machine
end

