-- ==== Sys2Proof/Machine/ConfigUpdate.lean ====
section
/-! DEFINITION. CU_ENTER, CU_EXIT (42_config_update.md R125, R126). -/

namespace Sys2Proof.Machine

/-- CU_ENTER (R125): `enter_seq(1)`, then `done`. -/
def execCuEnter (s : State) : Result :=
  match s.stepNo.toNat with
  | 0 => .next (s.start frameEnter)
  | 1 => modeWrite 1 settleEnter s
  | 2 => onDelay s fun t => (t.settle .entered).finish
  | _ => .fault .noSuchStep

/-- CU_EXIT (R126): `exit_seq(1)`, then `done`. -/
def execCuExit (s : State) : Result :=
  match s.stepNo.toNat with
  | 0 => .next (s.start frameExit)
  | 1 => modeWrite 1 settleExit s
  | 2 => onDelay s fun t => (t.settle .exited).finish
  | _ => .fault .noSuchStep

end Sys2Proof.Machine
end

