-- ==== Sys2Proof/Machine/Configuration.lean ====
section
/-! DEFINITION. SETFET, SETCOV (46_configuration.md R170 to R174). -/

namespace Sys2Proof.Machine

/-- SETFET target, state (R171). -/
def execSetfet (target : FetTarget) (state : FetState) (s : State) : Result :=
  singleWrite (frameSC (fetCode target state)) s

/-- What stands between step 6 and step 7 of SETCOV (R174): the checksum of the second write, and its ENTER. -/
def State.secondWrite (s : State) (d : Byte) : State := (s.csumLoad Config.dmCovDelay d).issue 7 frameEnter

/-- SETCOV mv, ms (R174): the threshold write at steps 1 to 6, the delay write at steps 7 to 12, `done`. -/
def execSetcov (mv ms : Half) (s : State) : Result :=
  match s.stepNo.toNat with
  | 0 => .next ((s.csumLoad Config.dmCovThresh (covThresh mv)).start frameEnter)
  | k + 1 =>
    if k < 6 then dmWriteSeq Config.dmCovThresh (covThresh mv) 1 k (fun t => t.secondWrite (covDelay ms)) s
    else dmWriteSeq Config.dmCovDelay (covDelay ms) 7 (k - 6) State.finish s

end Sys2Proof.Machine
end

