-- ==== Sys2Proof/Machine/DataMemory.lean ====
section
/-! DEFINITION. DMREAD, DMWRITE (43_data_memory.md R131 to R134). -/

namespace Sys2Proof.Machine

/-- DMREAD addr (R131): all three steps whatever the writes answer. -/
def execDmread (addr : Half) (s : State) : Result :=
  match s.stepNo.toNat with
  | 0 => .next (s.start (frameDMA addr))
  | 1 => onWrite s fun ok t => (t.noteNack 1 ok).issue 2 frameRSP
  | 2 => onWrite s fun ok t => (t.noteNack 2 ok).issue 3 (busRead 1)
  | 3 => onRead1 s fun r0 t => (t.setResult (r0.setWidth 32)).finish
  | _ => .fault .noSuchStep

/-- DMWRITE addr, val (R132): `csum_load`, `dm_write_seq(addr, val, 1)`, `done`. -/
def execDmwrite (addr : Half) (val : Byte) (s : State) : Result :=
  match s.stepNo.toNat with
  | 0 => .next ((s.csumLoad addr val).start frameEnter)
  | k + 1 => dmWriteSeq addr val 1 k State.finish s

end Sys2Proof.Machine
end

