-- ==== Sys2Proof/Machine/Measurement.lean ====
section
/-! DEFINITION. CELLV, ALLCELLV, CURRENT, ITEMP, THERM (44_measurement.md R141 to R146). -/

namespace Sys2Proof.Machine

/-- CELLV idx (R141). -/
def execCellv (idx : BitVec 5) (s : State) : Result :=
  directRead (cellOpcode idx.toNat) (fun t => t.setResult (t.raw.setWidth 32)) s

/-- `CELL[i] <- reg.RAW`, `1 <= i <= 16` (R142). -/
def State.setCell (s : State) (i : Nat) : State := { s with cells := s.cells.setIfInBounds (i - 1) s.raw }

/-- ALLCELLV (R142): for cell `i`, step `2i - 1` writes the opcode and step `2i` reads the cell. -/
def execAllcellv (s : State) : Result :=
  let k := s.stepNo.toNat
  if k = 0 then .next (s.start (frameDC (cellOpcode 1)))
  else if k ≤ 32 then
    if k % 2 = 1 then onWrite s fun ok t => (t.noteNack k ok).issue (k + 1) (busRead 2)
    else onRead2 s fun t =>
      if k = 32 then (t.setCell (k / 2)).finish
      else (t.setCell (k / 2)).issue (k + 1) (frameDC (cellOpcode (k / 2 + 1)))
  else .fault .noSuchStep

/-- CURRENT (R143): the extension to 32 bits is the open parameter CURRENT_SIGN_EXTEND. -/
def execCurrent (s : State) : Result :=
  directRead Config.opCc2
    (fun t => t.setResult (if t.params.currentSignExtend then t.raw.signExtend 32 else t.raw.setWidth 32)) s

/-- ITEMP (R145). -/
def execItemp (s : State) : Result := directRead Config.opItemp (fun t => t.setResult (centiCelsius t.raw)) s

/-- THERM ch (R146). -/
def execTherm (ch : Thermistor) (s : State) : Result :=
  directRead (thermOpcode ch) (fun t => t.setResult (centiCelsius t.raw)) s

end Sys2Proof.Machine
end

