-- ==== Sys2Proof/Machine/StatusDecode.lean ====
section
/-! DEFINITION. PROT, TEMPSTAT, ISCHG, ISDSG and DEC_PROT, DEC_TEMP, DEC_FET (45_status_decode.md R154 to R162). -/

namespace Sys2Proof.Machine

/-- `reg.PROTF <- dec_prot(b); reg.RESULT <- zext_32(reg.PROTF)` (R156, R160). -/
def State.decodeProt (s : State) (b : Byte) : State :=
  { s with protf := decProt s.params.protPos b, result := (decProt s.params.protPos b).setWidth 32 }

/-- `reg.TEMPF <- dec_temp(b); reg.RESULT <- zext_32(reg.TEMPF)` (R157, R161). -/
def State.decodeTemp (s : State) (b : Byte) : State :=
  { s with tempf := decTemp s.params.tempPos b, result := (decTemp s.params.tempPos b).setWidth 32 }

/-- `reg.FETF <- dec_fet(b)` (R155). -/
def State.decodeFet (s : State) (b : Byte) : State := { s with fetf := decFet b }

/-- PROT (R156): decodes the low byte of the response (R154). -/
def execProt (s : State) : Result := directRead Config.opProt (fun t => t.decodeProt (lo8 t.raw)) s

/-- TEMPSTAT (R157). -/
def execTempstat (s : State) : Result := directRead Config.opTempstat (fun t => t.decodeTemp (lo8 t.raw)) s

/-- ISCHG (R158): RESULT is FETF[0]. -/
def execIschg (s : State) : Result :=
  directRead Config.opFetstat
    (fun t => (t.decodeFet (lo8 t.raw)).setResult (((decFet (lo8 t.raw)).extractLsb' 0 1).setWidth 32)) s

/-- ISDSG (R159): RESULT is FETF[1]. -/
def execIsdsg (s : State) : Result :=
  directRead Config.opFetstat
    (fun t => (t.decodeFet (lo8 t.raw)).setResult (((decFet (lo8 t.raw)).extractLsb' 1 1).setWidth 32)) s

/-- DEC_PROT b (R160). -/
def execDecProt (b : Byte) (s : State) : Result := .next (s.begin.decodeProt b).finish

/-- DEC_TEMP b (R161). -/
def execDecTemp (b : Byte) (s : State) : Result := .next (s.begin.decodeTemp b).finish

/-- DEC_FET b (R162). -/
def execDecFet (b : Byte) (s : State) : Result :=
  .next ((s.begin.decodeFet b).setResult ((decFet b).setWidth 32)).finish

end Sys2Proof.Machine
end

