-- ==== Sys2Proof/Machine/Transport.lean ====
section
/-! DEFINITION. DIRECT, SUBCMD, SUBRSP (41_direct_subcommand.md R111 to R113). -/

namespace Sys2Proof.Machine

/-- DIRECT b (R111). -/
def execDirect (b : Byte) (s : State) : Result := directRead b (fun t => t.setResult (t.raw.setWidth 32)) s

/-- SUBCMD h (R112). -/
def execSubcmd (h : Half) (s : State) : Result := singleWrite (frameSC h) s

/-- SUBRSP (R113). -/
def execSubrsp (s : State) : Result :=
  match s.stepNo.toNat with
  | 0 => .next (s.start frameRSP)
  | 1 => onWrite s fun ok t => (t.noteNack 1 ok).issue 2 (busRead 2)
  | 2 => onRead2 s fun t => (t.setResult (t.raw.setWidth 32)).finish
  | _ => .fault .noSuchStep

end Sys2Proof.Machine
end

