-- ==== Sys2Proof/Machine/Dispatch.lean ====
section
/-! DEFINITION. One arm per command: its next transition, from acceptance (`stepNo = 0`) or from the answer of the step
it awaits. -/

namespace Sys2Proof.Machine

def exec (i : Instr) (s : State) : Host.Outcome State Fault Refusal :=
  match i with
  | .csClr => Sys2Proof.Machine.execCsClr s
  | .csPush b => Sys2Proof.Machine.execCsPush b s
  | .csGet => Sys2Proof.Machine.execCsGet s
  | .direct b => Sys2Proof.Machine.execDirect b s
  | .subcmd h => Sys2Proof.Machine.execSubcmd h s
  | .subrsp => Sys2Proof.Machine.execSubrsp s
  | .dmread addr => Sys2Proof.Machine.execDmread addr s
  | .dmwrite addr val => Sys2Proof.Machine.execDmwrite addr val s
  | .cuEnter => Sys2Proof.Machine.execCuEnter s
  | .cuExit => Sys2Proof.Machine.execCuExit s
  | .cellv idx => Sys2Proof.Machine.execCellv idx s
  | .allcellv => Sys2Proof.Machine.execAllcellv s
  | .current => Sys2Proof.Machine.execCurrent s
  | .itemp => Sys2Proof.Machine.execItemp s
  | .therm ch => Sys2Proof.Machine.execTherm ch s
  | .prot => Sys2Proof.Machine.execProt s
  | .tempstat => Sys2Proof.Machine.execTempstat s
  | .ischg => Sys2Proof.Machine.execIschg s
  | .isdsg => Sys2Proof.Machine.execIsdsg s
  | .decProt b => Sys2Proof.Machine.execDecProt b s
  | .decTemp b => Sys2Proof.Machine.execDecTemp b s
  | .decFet b => Sys2Proof.Machine.execDecFet b s
  | .setfet target state => Sys2Proof.Machine.execSetfet target state s
  | .setcov mv ms => Sys2Proof.Machine.execSetcov mv ms s

end Sys2Proof.Machine
end

