-- ==== Sys2Proof/Machine/Port.lean ====
section
/-! DEFINITION. The ports of CCA: taking a command word (10_state.md R25, R26) and what arrives from outside (R22, R37,
R38; 60_exceptions.md R187, R190; 70_reset_and_hazards.md R200, R201). -/

namespace Sys2Proof.Machine

/-- Whether a request abandoned by a Reset, at the transport or at the timer, is still unanswered: until its answer has
arrived CCA hands no new request to the transport (R201), so a settle delay that runs outlives a Reset (R205). That nothing
more holds CCA back after an abandoned ENTER or EXIT write is the model's choice, log entry 20. Log entry 6. -/
def State.transportBlocked (s : State) : Bool := !s.late.isEmpty

/-- Whether `Reset` is the next thing from outside. -/
def State.resetNext (s : State) : Bool :=
  match s.inputs with
  | .reset :: _ => true
  | _ => false

/-- Whether a word would have CCA hand a request to the transport at once. -/
def wordUsesBus (w : CmdWord) : Bool :=
  match decode w with
  | some i => usesBus i
  | none => false

/-- Acceptance (R25, R26): event `Accept(w)`, `cmd <- w`. -/
def State.latch (s : State) (w : CmdWord) (rest : List CmdWord) : State :=
  { s with cmd := w, port := rest, trace := s.trace ++ [.accept w] }

/-- The word CCA accepts now, if any, and the state that has latched it (R25): only when idle, not when a Reset is next,
which wins over everything (R187 (c)), and not a word that needs the transport while an abandoned request is unanswered
(R201). Log entries 6 and 16. -/
def State.fetch (s : State) : Option (CmdWord × State) :=
  if s.busy || s.resetNext then none
  else match s.port with
    | [] => none
    | w :: rest => if wordUsesBus w && s.transportBlocked then none else some (w, s.latch w rest)

/-- `Reset` (R37, R200, R201): every register at its reset value; the outstanding request is abandoned, not recalled;
the outside world, the parameters and the trace go on (log entry 19). No delay is issued, also where the abandoned request
is an ENTER or EXIT write whose settle delay was still to come: the model's choice between R200, R201 and R205, log entry
20. -/
def State.resetEvent (s : State) (rest : List Input) : State :=
  { State.reset with
    params := s.params
    late := s.late ++ s.pending.toList
    port := s.port
    inputs := rest
    trace := s.trace ++ [.reset]
    draws := s.draws }

/-- The abandoned requests left when `a` answers one of them (R201): the oldest it can answer. `none`: it answers none. -/
def dropLate (a : Answer) : List Request → Option (List Request)
  | [] => none
  | r :: rs => if r.answeredBy a then some rs else (dropLate a rs).map (r :: ·)

/-- An answer is discarded and changes no state of CCA (R187 (c), R201). -/
def State.discard (s : State) (a : Answer) (rest : List Input) : State :=
  { s with inputs := rest, trace := s.trace ++ [.discarded a] }

/-- A host read (R22): no side effect on any state of CCA. -/
def State.readPort (s : State) (n : RegNo) (rest : List Input) : State :=
  { s with
    inputs := rest
    trace := s.trace ++ [.hostRead n (s.hostRead n)]
    draws := if s.busy then s.draws + 1 else s.draws }

/-- A word reaches the command port, where it waits until it is accepted (R25). -/
def State.presentWord (s : State) (w : CmdWord) (rest : List Input) : State :=
  { s with inputs := rest, port := s.port ++ [w] }

/-- A moment in which nothing arrives. -/
def State.passMoment (s : State) (rest : List Input) : State := { s with inputs := rest }

/-- The platform brings the transport back to idle (R201): no abandoned bus request is left to be answered. An abandoned
delay is the timer's and stays (R205). Log entry 6. -/
def State.transportReset (s : State) (rest : List Input) : State :=
  { s with inputs := rest, late := s.late.filter (fun r => !r.isBus), trace := s.trace ++ [.transportReset] }

/-- What the next thing from outside is to CCA. -/
inductive Arrival where
  /-- The answer that the running command awaits. -/
  | awaited
  /-- Anything else; the state after it. -/
  | other (s : State)
deriving DecidableEq, Repr

/-- The next thing from outside (R187). Nothing: CCA stays as it is, for ever if nothing ever comes (R190). An answer
belongs to an abandoned request if there is one it answers; else to the outstanding request if it answers that; an
answer to neither is discarded (log entry 7). -/
def State.arrival (s : State) : Arrival :=
  match s.inputs with
  | [] => .other s
  | .present w :: rest => .other (s.presentWord w rest)
  | .reset :: rest => .other (s.resetEvent rest)
  | .transportReset :: rest => .other (s.transportReset rest)
  | .hostRead n :: rest => .other (s.readPort n rest)
  | .pause :: rest => .other (s.passMoment rest)
  | .answer a :: rest =>
    match dropLate a s.late with
    | some late => .other { s.discard a rest with late := late }
    | none => if s.busy && s.pending.any (·.answeredBy a) then .awaited else .other (s.discard a rest)

end Sys2Proof.Machine
end

