-- ==== Sys2Proof/Machine/Step.lean ====
section
/-! DEFINITION. One transition of the machine (10_state.md R24, R25), and how the host places a word to be run next. -/

namespace Sys2Proof.Machine

/-- One transition. A Reset that is next wins over everything (R187 (c)). Else a waiting word is accepted as soon as CCA
may take it: an illegal one is refused (R182, R84), a legal one runs. Otherwise the next thing from outside arrives; the
awaited answer goes to the running command. -/
def step (s : State) : Host.Outcome State Fault Refusal :=
  match s.fetch with
  | some (w, t) =>
    match decode w with
    | some i => exec i t
    | none => .next t.raiseIllegal
  | none =>
    match s.arrival with
    | .other t => .next t
    | .awaited =>
      match decode s.cmd with
      | some i => exec i s
      | none => .fault .noCommand

/-- The word `w` is the next one at the command port of an idle CCA with no abandoned request, and no Reset comes before
its acceptance: the very next step accepts it. It stands for a host that presents the word (R25). Log entry 11. -/
def State.withFetchWord (s : State) (nbits w : Nat) : State :=
  { s with
    busy := false
    stepNo := 0
    pending := none
    late := []
    inputs := if s.resetNext then .pause :: s.inputs else s.inputs
    port := BitVec.ofNat 40 (w % 2 ^ nbits) :: s.port }

end Sys2Proof.Machine
end

