-- ==== Sys2Proof/Safety.lean ====
section
/-! DEFINITION. The terms claims are stated in: running one command's transitions in a row, the step tables of the
commands as data (20_memory.md R58, 30_encoding.md R87, 43_data_memory.md R132), and the invariant of the machine
(10_state.md R39, 42_config_update.md R127, 70_reset_and_hazards.md R201). -/

namespace Sys2Proof.Machine

/-- CCA is idle: no command runs and no event is awaited (R24, R25). -/
def Idle (s : State) : Prop := s.busy = false ∧ s.stepNo = 0

/-- `k` transitions of the command `i`, one after the other. -/
def execTimes (i : Instr) : Nat → State → Result
  | 0, s => .next s
  | k + 1, s =>
    match execTimes i k s with
    | .next t => exec i t
    | .fault r => .fault r
    | .refused r => .refused r

/-- From `s`, `k + 1` transitions of the command `i` end in `t`: the last one is `exec i` at a busy state `u`. -/
def Completes (i : Instr) (k : Nat) (s t : State) : Prop :=
  ∃ u, execTimes i k s = .next u ∧ u.busy = true ∧ exec i u = .next t

/-- Commands without interface events, one after the other, each a single transition (R25). -/
def execEach : List Instr → State → Result
  | [], s => .next s
  | i :: is, s =>
    match exec i s with
    | .next t => execEach is t
    | .fault r => .fault r
    | .refused r => .refused r

/-- Replace a next state by its image. -/
def mapNext (f : State → State) : Result → Result
  | .next s => .next (f s)
  | .fault r => .fault r
  | .refused r => .refused r

/-- The opcode of the commands that are one Direct Command read (R58, R87). -/
def directOpcode : Instr → Option Byte
  | .direct b => some b
  | .cellv idx => some (cellOpcode idx.toNat)
  | .current => some Config.opCc2
  | .itemp => some Config.opItemp
  | .therm ch => some (thermOpcode ch)
  | .prot => some Config.opProt
  | .tempstat => some Config.opTempstat
  | .ischg | .isdsg => some Config.opFetstat
  | .csClr | .csPush _ | .csGet | .subcmd _ | .subrsp | .dmread _ | .dmwrite _ _ | .cuEnter | .cuExit | .allcellv
  | .decProt _ | .decTemp _ | .decFet _ | .setfet _ _ | .setcov _ _ => none

/-- The Data-Memory write that step `k` of a command belongs to: address, value and row of R132's table, from 0. -/
def bracketAt : Instr → Nat → Option (Half × Byte × Nat)
  | .dmwrite addr val, k => if 1 ≤ k ∧ k ≤ 6 then some (addr, val, k - 1) else none
  | .setcov mv ms, k =>
    if 1 ≤ k ∧ k ≤ 6 then some (Config.dmCovThresh, covThresh mv, k - 1)
    else if 7 ≤ k ∧ k ≤ 12 then some (Config.dmCovDelay, covDelay ms, k - 7)
    else none
  | _, _ => none

/-- The event of each row of `dm_write_seq` (R132); the checksum byte is that of the bytes R133 names. -/
def bracketEvent (addr : Half) (val : Byte) : Nat → Option Request
  | 0 => some frameEnter
  | 1 => some settleEnter
  | 2 => some (frameDMW addr val)
  | 3 => some (frameCKL (checksumByte Config.devWr (dmChecksumTail addr val)))
  | 4 => some frameExit
  | 5 => some settleExit
  | _ => none

/-- The steps of a Direct Command read (R110). -/
def directEvent (op : Byte) : Nat → Option Request
  | 1 => some (frameDC op)
  | 2 => some (busRead 2)
  | _ => none

/-- The event of step `k` of each command, as the step tables give it (R58 and the rule of each command). -/
def eventAt (i : Instr) (k : Nat) : Option Request :=
  match i with
  | .csClr | .csPush _ | .csGet | .decProt _ | .decTemp _ | .decFet _ => none
  | .direct _ | .cellv _ | .current | .itemp | .therm _ | .prot | .tempstat | .ischg | .isdsg =>
    (directOpcode i).bind (directEvent · k)
  | .subcmd h => if k = 1 then some (frameSC h) else none
  | .setfet target state => if k = 1 then some (frameSC (fetCode target state)) else none
  | .subrsp => if k = 1 then some frameRSP else if k = 2 then some (busRead 2) else none
  | .dmread addr =>
    if k = 1 then some (frameDMA addr) else if k = 2 then some frameRSP else if k = 3 then some (busRead 1) else none
  | .cuEnter => if k = 1 then some frameEnter else if k = 2 then some settleEnter else none
  | .cuExit => if k = 1 then some frameExit else if k = 2 then some settleExit else none
  | .allcellv =>
    if 1 ≤ k ∧ k ≤ 32 then some (if k % 2 = 1 then frameDC (cellOpcode ((k + 1) / 2)) else busRead 2) else none
  | .dmwrite _ _ | .setcov _ _ => (bracketAt i k).bind fun b => bracketEvent b.1 b.2.1 b.2.2

/-- What holds of CSUM and the shadow inside a Data-Memory write: CSUM holds this write's checksum (R133), and the
payload frames go out only while the shadow says ENTERED (R127 (c)). -/
def bracketHolds (s : State) (i : Instr) : Prop :=
  ∀ addr val row, bracketAt i s.stepNo.toNat = some (addr, val, row) →
    s.seeded = true ∧ s.acc = csumAcc Config.devWr (dmChecksumTail addr val) ∧
      (row = 2 ∨ row = 3 → s.cuMode = .entered)

/-- A command is running as its step table says (R24): the word latched is legal, the outstanding request is the one of
the step awaited, and no ILLEGAL outcome is recorded (R187 (a)). -/
def runningHolds (s : State) : Prop :=
  ∃ i, decode s.cmd = some i ∧ s.pending.isSome = true ∧ s.pending = eventAt i s.stepNo.toNat ∧ s.err ≠ .illegal ∧
    bracketHolds s i

/-- The invariant of the machine. -/
structure Inv (s : State) : Prop where
  /-- R39 (a). -/
  idle_iff : s.busy = false ↔ s.stepNo = 0
  /-- No request is outstanding when idle (R36). -/
  idle_quiet : s.busy = false → s.pending = none
  /-- R39 (b). -/
  unseeded_clear : s.seeded = false → s.acc = 0
  /-- R39 (c), and with it (d). -/
  nack_iff : s.err = .busNack ↔ s.fstep ≠ 0
  /-- R24. -/
  running : s.busy = true → runningHolds s
  /-- No command with interface events runs while an abandoned request is unanswered, a delay still held after the
  transport's return to idle included: the model's way to keep R201 and R205, log entry 6 (DESIGN CHOICE). -/
  blocked_idle : s.transportBlocked = true → s.busy = false
  /-- R9. -/
  params_legal : s.params.legal = true

/-! How claims write a command's traffic and its end (R13, R180, R181). -/

/-- `BW[bytes] -> ACK` or `-> NACK` (R13). -/
def bw (bytes : List Byte) (ok : Bool) : List Event := [.request (.write 0x10 bytes), .answered (.wrote ok)]

/-- `BR(n) -> [bytes]` (R13). -/
def br (n : Nat) (bytes : List Byte) : List Event := [.request (.read 0x11 n), .answered (.data bytes)]

/-- `DLY(us)`, over (R13). -/
def dly (us : Nat) : List Event := [.request (.delay us), .answered .delayOver]

/-- The requests among events, in order. -/
def requestsOf (es : List Event) : List Request :=
  es.filterMap fun e => match e with
    | .request r => some r
    | _ => none

/-- The step of the first refused write, 0 when none: writes as pairs of step number and answer, in order (R181). -/
def firstRefused : List (Nat × Bool) → Nat
  | [] => 0
  | (n, ok) :: rest => if ok then firstRefused rest else n

/-- The outcome that goes with `fstep` for a legal command (R180). -/
def outcomeOf (fstep : Nat) : Err := if fstep = 0 then .ok else .busNack

/-- The state `s` with nothing changed but what the end of a command with interface events always changes: idle, the
outcome of its writes, the answers used up, its events and `Done` in the trace (R25, R180). -/
def State.ended (s : State) (writes : List (Nat × Bool)) (rest : List Input) (events : List Event) : State :=
  { s with
    busy := false
    stepNo := 0
    pending := none
    err := outcomeOf (firstRefused writes)
    fstep := BitVec.ofNat 6 (firstRefused writes)
    inputs := rest
    trace := s.trace ++ events ++ [.done (outcomeOf (firstRefused writes)) (BitVec.ofNat 6 (firstRefused writes))] }

/-- The answers of one `dm_write_seq` (R134), by the answers to ENTER, DMW, CKL and EXIT: a refusal of the first or the
second means the next are not asked. -/
def bracketAnswers (enter dmw ckl exit : Bool) : List Input :=
  [.answer (.wrote enter), .answer .delayOver] ++
    (if enter then .answer (.wrote dmw) :: (if dmw then [.answer (.wrote ckl)] else []) else []) ++
    [.answer (.wrote exit), .answer .delayOver]

/-- Its trace (R132, R134). -/
def bracketTrace (addr : Half) (val ck : Byte) (enter dmw ckl exit : Bool) : List Event :=
  bw [0x3E, 0x90, 0x00] enter ++ dly 2000 ++
    (if enter then
      bw [0x3E, addr.extractLsb' 0 8, addr.extractLsb' 8 8, val] dmw ++ (if dmw then bw [0x60, ck, 0x05] ckl else [])
    else []) ++
    bw [0x3E, 0x92, 0x00] exit ++ dly 1000

/-- Its bus writes with their step numbers, `n` the first (R132). -/
def bracketWrites (n : Nat) (enter dmw ckl exit : Bool) : List (Nat × Bool) :=
  (n, enter) :: (if enter then (n + 2, dmw) :: (if dmw then [(n + 3, ckl)] else []) else []) ++ [(n + 4, exit)]

/-- The shadow after it (R127 (d)). -/
def bracketMode (m : CuMode) (enter exit : Bool) : CuMode :=
  if exit then .exited else if enter then .entered else m

/-- The accumulator of a Data-Memory write, in the closed form of R133. -/
def dmAcc (addr : Half) (val : Byte) : Byte := addr.extractLsb' 0 8 - addr.extractLsb' 8 8 + val - 46

/-- The alternating sum of R105: `int(b1) - int(b2) + int(b3) - ...`. -/
def alternatingSum : List Byte → Int
  | [] => 0
  | b :: bs => (b.toNat : Int) - alternatingSum bs

/-! Which commands write which register: the column "written by" of R22. -/

/-- RESULT. -/
def writesResult : Instr → Bool
  | .csGet | .direct _ | .subrsp | .dmread _ | .cellv _ | .current | .itemp | .therm _ | .prot | .tempstat | .ischg
  | .isdsg | .decProt _ | .decTemp _ | .decFet _ => true
  | .csClr | .csPush _ | .subcmd _ | .dmwrite _ _ | .cuEnter | .cuExit | .allcellv | .setfet _ _ | .setcov _ _ => false

/-- RAW: every command with a `BusRead`. -/
def writesRaw : Instr → Bool
  | .direct _ | .subrsp | .dmread _ | .cellv _ | .allcellv | .current | .itemp | .therm _ | .prot | .tempstat | .ischg
  | .isdsg => true
  | .csClr | .csPush _ | .csGet | .subcmd _ | .dmwrite _ _ | .cuEnter | .cuExit | .decProt _ | .decTemp _ | .decFet _
  | .setfet _ _ | .setcov _ _ => false

/-- CSUM. -/
def writesCsum : Instr → Bool
  | .csClr | .csPush _ | .dmwrite _ _ | .setcov _ _ => true
  | .csGet | .direct _ | .subcmd _ | .subrsp | .dmread _ | .cuEnter | .cuExit | .cellv _ | .allcellv | .current
  | .itemp | .therm _ | .prot | .tempstat | .ischg | .isdsg | .decProt _ | .decTemp _ | .decFet _ | .setfet _ _ => false

/-- `cu_mode` and `mack` (R28, R125, R126, R132, R174). -/
def writesMode : Instr → Bool
  | .dmwrite _ _ | .cuEnter | .cuExit | .setcov _ _ => true
  | .csClr | .csPush _ | .csGet | .direct _ | .subcmd _ | .subrsp | .dmread _ | .cellv _ | .allcellv | .current
  | .itemp | .therm _ | .prot | .tempstat | .ischg | .isdsg | .decProt _ | .decTemp _ | .decFet _ | .setfet _ _ => false

/-- The state registers R20 names hold the same values in both: all that CCA itself holds. -/
def SameRegisters (s t : State) : Prop :=
  s.busy = t.busy ∧ s.stepNo = t.stepNo ∧ s.cmd = t.cmd ∧ s.mack = t.mack ∧ s.err = t.err ∧ s.fstep = t.fstep ∧
    s.acc = t.acc ∧ s.seeded = t.seeded ∧ s.cuMode = t.cuMode ∧ s.result = t.result ∧ s.raw = t.raw ∧
    s.protf = t.protf ∧ s.tempf = t.tempf ∧ s.fetf = t.fetf ∧ s.cells = t.cells

end Sys2Proof.Machine
end

