-- ==== Sys2Proof/Laws/State.lean ====
section
/-! SUPPORT. One lemma per field per update of the state, each true by rfl: no later proof unfolds a record update. -/

namespace Sys2Proof.Machine.State

variable (s : State)

/-! `log` -/

@[simp] theorem log_busy (e : Event) : (s.log e).busy = s.busy := by
  simp only [log]
@[simp] theorem log_stepNo (e : Event) : (s.log e).stepNo = s.stepNo := by
  simp only [log]
@[simp] theorem log_cmd (e : Event) : (s.log e).cmd = s.cmd := by
  simp only [log]
@[simp] theorem log_mack (e : Event) : (s.log e).mack = s.mack := by
  simp only [log]
@[simp] theorem log_err (e : Event) : (s.log e).err = s.err := by
  simp only [log]
@[simp] theorem log_fstep (e : Event) : (s.log e).fstep = s.fstep := by
  simp only [log]
@[simp] theorem log_acc (e : Event) : (s.log e).acc = s.acc := by
  simp only [log]
@[simp] theorem log_seeded (e : Event) : (s.log e).seeded = s.seeded := by
  simp only [log]
@[simp] theorem log_cuMode (e : Event) : (s.log e).cuMode = s.cuMode := by
  simp only [log]
@[simp] theorem log_result (e : Event) : (s.log e).result = s.result := by
  simp only [log]
@[simp] theorem log_raw (e : Event) : (s.log e).raw = s.raw := by
  simp only [log]
@[simp] theorem log_protf (e : Event) : (s.log e).protf = s.protf := by
  simp only [log]
@[simp] theorem log_tempf (e : Event) : (s.log e).tempf = s.tempf := by
  simp only [log]
@[simp] theorem log_fetf (e : Event) : (s.log e).fetf = s.fetf := by
  simp only [log]
@[simp] theorem log_cells (e : Event) : (s.log e).cells = s.cells := by
  simp only [log]
@[simp] theorem log_params (e : Event) : (s.log e).params = s.params := by
  simp only [log]
@[simp] theorem log_pending (e : Event) : (s.log e).pending = s.pending := by
  simp only [log]
@[simp] theorem log_late (e : Event) : (s.log e).late = s.late := by
  simp only [log]
@[simp] theorem log_port (e : Event) : (s.log e).port = s.port := by
  simp only [log]
@[simp] theorem log_inputs (e : Event) : (s.log e).inputs = s.inputs := by
  simp only [log]
@[simp] theorem log_trace (e : Event) : (s.log e).trace = s.trace ++ [e] := by
  simp only [log]
@[simp] theorem log_draws (e : Event) : (s.log e).draws = s.draws := by
  simp only [log]

/-! `begin` -/

@[simp] theorem begin_busy : (s.begin).busy = s.busy := by
  simp only [begin]
@[simp] theorem begin_stepNo : (s.begin).stepNo = s.stepNo := by
  simp only [begin]
@[simp] theorem begin_cmd : (s.begin).cmd = s.cmd := by
  simp only [begin]
@[simp] theorem begin_mack : (s.begin).mack = s.mack := by
  simp only [begin]
@[simp] theorem begin_err : (s.begin).err = .ok := by
  simp only [begin]
@[simp] theorem begin_fstep : (s.begin).fstep = 0 := by
  simp only [begin]
@[simp] theorem begin_acc : (s.begin).acc = s.acc := by
  simp only [begin]
@[simp] theorem begin_seeded : (s.begin).seeded = s.seeded := by
  simp only [begin]
@[simp] theorem begin_cuMode : (s.begin).cuMode = s.cuMode := by
  simp only [begin]
@[simp] theorem begin_result : (s.begin).result = s.result := by
  simp only [begin]
@[simp] theorem begin_raw : (s.begin).raw = s.raw := by
  simp only [begin]
@[simp] theorem begin_protf : (s.begin).protf = s.protf := by
  simp only [begin]
@[simp] theorem begin_tempf : (s.begin).tempf = s.tempf := by
  simp only [begin]
@[simp] theorem begin_fetf : (s.begin).fetf = s.fetf := by
  simp only [begin]
@[simp] theorem begin_cells : (s.begin).cells = s.cells := by
  simp only [begin]
@[simp] theorem begin_params : (s.begin).params = s.params := by
  simp only [begin]
@[simp] theorem begin_pending : (s.begin).pending = s.pending := by
  simp only [begin]
@[simp] theorem begin_late : (s.begin).late = s.late := by
  simp only [begin]
@[simp] theorem begin_port : (s.begin).port = s.port := by
  simp only [begin]
@[simp] theorem begin_inputs : (s.begin).inputs = s.inputs := by
  simp only [begin]
@[simp] theorem begin_trace : (s.begin).trace = s.trace := by
  simp only [begin]
@[simp] theorem begin_draws : (s.begin).draws = s.draws := by
  simp only [begin]

/-! `issue` -/

@[simp] theorem issue_busy (n : Nat) (r : Request) : (s.issue n r).busy = s.busy := by
  simp only [issue]
@[simp] theorem issue_stepNo (n : Nat) (r : Request) : (s.issue n r).stepNo = BitVec.ofNat 6 n := by
  simp only [issue]
@[simp] theorem issue_cmd (n : Nat) (r : Request) : (s.issue n r).cmd = s.cmd := by
  simp only [issue]
@[simp] theorem issue_mack (n : Nat) (r : Request) : (s.issue n r).mack = s.mack := by
  simp only [issue]
@[simp] theorem issue_err (n : Nat) (r : Request) : (s.issue n r).err = s.err := by
  simp only [issue]
@[simp] theorem issue_fstep (n : Nat) (r : Request) : (s.issue n r).fstep = s.fstep := by
  simp only [issue]
@[simp] theorem issue_acc (n : Nat) (r : Request) : (s.issue n r).acc = s.acc := by
  simp only [issue]
@[simp] theorem issue_seeded (n : Nat) (r : Request) : (s.issue n r).seeded = s.seeded := by
  simp only [issue]
@[simp] theorem issue_cuMode (n : Nat) (r : Request) : (s.issue n r).cuMode = s.cuMode := by
  simp only [issue]
@[simp] theorem issue_result (n : Nat) (r : Request) : (s.issue n r).result = s.result := by
  simp only [issue]
@[simp] theorem issue_raw (n : Nat) (r : Request) : (s.issue n r).raw = s.raw := by
  simp only [issue]
@[simp] theorem issue_protf (n : Nat) (r : Request) : (s.issue n r).protf = s.protf := by
  simp only [issue]
@[simp] theorem issue_tempf (n : Nat) (r : Request) : (s.issue n r).tempf = s.tempf := by
  simp only [issue]
@[simp] theorem issue_fetf (n : Nat) (r : Request) : (s.issue n r).fetf = s.fetf := by
  simp only [issue]
@[simp] theorem issue_cells (n : Nat) (r : Request) : (s.issue n r).cells = s.cells := by
  simp only [issue]
@[simp] theorem issue_params (n : Nat) (r : Request) : (s.issue n r).params = s.params := by
  simp only [issue]
@[simp] theorem issue_pending (n : Nat) (r : Request) : (s.issue n r).pending = some r := by
  simp only [issue]
@[simp] theorem issue_late (n : Nat) (r : Request) : (s.issue n r).late = s.late := by
  simp only [issue]
@[simp] theorem issue_port (n : Nat) (r : Request) : (s.issue n r).port = s.port := by
  simp only [issue]
@[simp] theorem issue_inputs (n : Nat) (r : Request) : (s.issue n r).inputs = s.inputs := by
  simp only [issue]
@[simp] theorem issue_trace (n : Nat) (r : Request) : (s.issue n r).trace = s.trace ++ [.request r] := by
  simp only [issue]
@[simp] theorem issue_draws (n : Nat) (r : Request) : (s.issue n r).draws = s.draws := by
  simp only [issue]

/-! `start` -/

@[simp] theorem start_busy (r : Request) : (s.start r).busy = true := by
  simp only [start, issue, begin]
@[simp] theorem start_stepNo (r : Request) : (s.start r).stepNo = 1 := by
  simp only [start, issue, begin]; rfl
@[simp] theorem start_cmd (r : Request) : (s.start r).cmd = s.cmd := by
  simp only [start, issue, begin]
@[simp] theorem start_mack (r : Request) : (s.start r).mack = s.mack := by
  simp only [start, issue, begin]
@[simp] theorem start_err (r : Request) : (s.start r).err = .ok := by
  simp only [start, issue, begin]
@[simp] theorem start_fstep (r : Request) : (s.start r).fstep = 0 := by
  simp only [start, issue, begin]
@[simp] theorem start_acc (r : Request) : (s.start r).acc = s.acc := by
  simp only [start, issue, begin]
@[simp] theorem start_seeded (r : Request) : (s.start r).seeded = s.seeded := by
  simp only [start, issue, begin]
@[simp] theorem start_cuMode (r : Request) : (s.start r).cuMode = s.cuMode := by
  simp only [start, issue, begin]
@[simp] theorem start_result (r : Request) : (s.start r).result = s.result := by
  simp only [start, issue, begin]
@[simp] theorem start_raw (r : Request) : (s.start r).raw = s.raw := by
  simp only [start, issue, begin]
@[simp] theorem start_protf (r : Request) : (s.start r).protf = s.protf := by
  simp only [start, issue, begin]
@[simp] theorem start_tempf (r : Request) : (s.start r).tempf = s.tempf := by
  simp only [start, issue, begin]
@[simp] theorem start_fetf (r : Request) : (s.start r).fetf = s.fetf := by
  simp only [start, issue, begin]
@[simp] theorem start_cells (r : Request) : (s.start r).cells = s.cells := by
  simp only [start, issue, begin]
@[simp] theorem start_params (r : Request) : (s.start r).params = s.params := by
  simp only [start, issue, begin]
@[simp] theorem start_pending (r : Request) : (s.start r).pending = some r := by
  simp only [start, issue, begin]
@[simp] theorem start_late (r : Request) : (s.start r).late = s.late := by
  simp only [start, issue, begin]
@[simp] theorem start_port (r : Request) : (s.start r).port = s.port := by
  simp only [start, issue, begin]
@[simp] theorem start_inputs (r : Request) : (s.start r).inputs = s.inputs := by
  simp only [start, issue, begin]
@[simp] theorem start_trace (r : Request) : (s.start r).trace = s.trace ++ [.request r] := by
  simp only [start, issue, begin]
@[simp] theorem start_draws (r : Request) : (s.start r).draws = s.draws := by
  simp only [start, issue, begin]

/-! `finish` -/

@[simp] theorem finish_busy : (s.finish).busy = false := by
  simp only [finish]
@[simp] theorem finish_stepNo : (s.finish).stepNo = 0 := by
  simp only [finish]
@[simp] theorem finish_cmd : (s.finish).cmd = s.cmd := by
  simp only [finish]
@[simp] theorem finish_mack : (s.finish).mack = s.mack := by
  simp only [finish]
@[simp] theorem finish_err : (s.finish).err = s.err := by
  simp only [finish]
@[simp] theorem finish_fstep : (s.finish).fstep = s.fstep := by
  simp only [finish]
@[simp] theorem finish_acc : (s.finish).acc = s.acc := by
  simp only [finish]
@[simp] theorem finish_seeded : (s.finish).seeded = s.seeded := by
  simp only [finish]
@[simp] theorem finish_cuMode : (s.finish).cuMode = s.cuMode := by
  simp only [finish]
@[simp] theorem finish_result : (s.finish).result = s.result := by
  simp only [finish]
@[simp] theorem finish_raw : (s.finish).raw = s.raw := by
  simp only [finish]
@[simp] theorem finish_protf : (s.finish).protf = s.protf := by
  simp only [finish]
@[simp] theorem finish_tempf : (s.finish).tempf = s.tempf := by
  simp only [finish]
@[simp] theorem finish_fetf : (s.finish).fetf = s.fetf := by
  simp only [finish]
@[simp] theorem finish_cells : (s.finish).cells = s.cells := by
  simp only [finish]
@[simp] theorem finish_params : (s.finish).params = s.params := by
  simp only [finish]
@[simp] theorem finish_pending : (s.finish).pending = s.pending := by
  simp only [finish]
@[simp] theorem finish_late : (s.finish).late = s.late := by
  simp only [finish]
@[simp] theorem finish_port : (s.finish).port = s.port := by
  simp only [finish]
@[simp] theorem finish_inputs : (s.finish).inputs = s.inputs := by
  simp only [finish]
@[simp] theorem finish_trace : (s.finish).trace = s.trace ++ [.done s.err s.fstep] := by
  simp only [finish]
@[simp] theorem finish_draws : (s.finish).draws = s.draws := by
  simp only [finish]

/-! `raiseIllegal` -/

@[simp] theorem raiseIllegal_busy : (s.raiseIllegal).busy = s.busy := by
  simp only [raiseIllegal]
@[simp] theorem raiseIllegal_stepNo : (s.raiseIllegal).stepNo = s.stepNo := by
  simp only [raiseIllegal]
@[simp] theorem raiseIllegal_cmd : (s.raiseIllegal).cmd = s.cmd := by
  simp only [raiseIllegal]
@[simp] theorem raiseIllegal_mack : (s.raiseIllegal).mack = s.mack := by
  simp only [raiseIllegal]
@[simp] theorem raiseIllegal_err : (s.raiseIllegal).err = .illegal := by
  simp only [raiseIllegal]
@[simp] theorem raiseIllegal_fstep : (s.raiseIllegal).fstep = 0 := by
  simp only [raiseIllegal]
@[simp] theorem raiseIllegal_acc : (s.raiseIllegal).acc = s.acc := by
  simp only [raiseIllegal]
@[simp] theorem raiseIllegal_seeded : (s.raiseIllegal).seeded = s.seeded := by
  simp only [raiseIllegal]
@[simp] theorem raiseIllegal_cuMode : (s.raiseIllegal).cuMode = s.cuMode := by
  simp only [raiseIllegal]
@[simp] theorem raiseIllegal_result : (s.raiseIllegal).result = s.result := by
  simp only [raiseIllegal]
@[simp] theorem raiseIllegal_raw : (s.raiseIllegal).raw = s.raw := by
  simp only [raiseIllegal]
@[simp] theorem raiseIllegal_protf : (s.raiseIllegal).protf = s.protf := by
  simp only [raiseIllegal]
@[simp] theorem raiseIllegal_tempf : (s.raiseIllegal).tempf = s.tempf := by
  simp only [raiseIllegal]
@[simp] theorem raiseIllegal_fetf : (s.raiseIllegal).fetf = s.fetf := by
  simp only [raiseIllegal]
@[simp] theorem raiseIllegal_cells : (s.raiseIllegal).cells = s.cells := by
  simp only [raiseIllegal]
@[simp] theorem raiseIllegal_params : (s.raiseIllegal).params = s.params := by
  simp only [raiseIllegal]
@[simp] theorem raiseIllegal_pending : (s.raiseIllegal).pending = s.pending := by
  simp only [raiseIllegal]
@[simp] theorem raiseIllegal_late : (s.raiseIllegal).late = s.late := by
  simp only [raiseIllegal]
@[simp] theorem raiseIllegal_port : (s.raiseIllegal).port = s.port := by
  simp only [raiseIllegal]
@[simp] theorem raiseIllegal_inputs : (s.raiseIllegal).inputs = s.inputs := by
  simp only [raiseIllegal]
@[simp] theorem raiseIllegal_trace : (s.raiseIllegal).trace = s.trace ++ [.done .illegal 0] := by
  simp only [raiseIllegal]
@[simp] theorem raiseIllegal_draws : (s.raiseIllegal).draws = s.draws := by
  simp only [raiseIllegal]

/-! `take` -/

@[simp] theorem take_busy (a : Answer) (rest : List Input) : (s.take a rest).busy = s.busy := by
  simp only [take]
@[simp] theorem take_stepNo (a : Answer) (rest : List Input) : (s.take a rest).stepNo = s.stepNo := by
  simp only [take]
@[simp] theorem take_cmd (a : Answer) (rest : List Input) : (s.take a rest).cmd = s.cmd := by
  simp only [take]
@[simp] theorem take_mack (a : Answer) (rest : List Input) : (s.take a rest).mack = s.mack := by
  simp only [take]
@[simp] theorem take_err (a : Answer) (rest : List Input) : (s.take a rest).err = s.err := by
  simp only [take]
@[simp] theorem take_fstep (a : Answer) (rest : List Input) : (s.take a rest).fstep = s.fstep := by
  simp only [take]
@[simp] theorem take_acc (a : Answer) (rest : List Input) : (s.take a rest).acc = s.acc := by
  simp only [take]
@[simp] theorem take_seeded (a : Answer) (rest : List Input) : (s.take a rest).seeded = s.seeded := by
  simp only [take]
@[simp] theorem take_cuMode (a : Answer) (rest : List Input) : (s.take a rest).cuMode = s.cuMode := by
  simp only [take]
@[simp] theorem take_result (a : Answer) (rest : List Input) : (s.take a rest).result = s.result := by
  simp only [take]
@[simp] theorem take_raw (a : Answer) (rest : List Input) : (s.take a rest).raw = s.raw := by
  simp only [take]
@[simp] theorem take_protf (a : Answer) (rest : List Input) : (s.take a rest).protf = s.protf := by
  simp only [take]
@[simp] theorem take_tempf (a : Answer) (rest : List Input) : (s.take a rest).tempf = s.tempf := by
  simp only [take]
@[simp] theorem take_fetf (a : Answer) (rest : List Input) : (s.take a rest).fetf = s.fetf := by
  simp only [take]
@[simp] theorem take_cells (a : Answer) (rest : List Input) : (s.take a rest).cells = s.cells := by
  simp only [take]
@[simp] theorem take_params (a : Answer) (rest : List Input) : (s.take a rest).params = s.params := by
  simp only [take]
@[simp] theorem take_pending (a : Answer) (rest : List Input) : (s.take a rest).pending = none := by
  simp only [take]
@[simp] theorem take_late (a : Answer) (rest : List Input) : (s.take a rest).late = s.late := by
  simp only [take]
@[simp] theorem take_port (a : Answer) (rest : List Input) : (s.take a rest).port = s.port := by
  simp only [take]
@[simp] theorem take_inputs (a : Answer) (rest : List Input) : (s.take a rest).inputs = rest := by
  simp only [take]
@[simp] theorem take_trace (a : Answer) (rest : List Input) : (s.take a rest).trace = s.trace ++ [.answered a] := by
  simp only [take]
@[simp] theorem take_draws (a : Answer) (rest : List Input) : (s.take a rest).draws = s.draws := by
  simp only [take]

/-! `setResult` -/

@[simp] theorem setResult_busy (v : Word) : (s.setResult v).busy = s.busy := by
  simp only [setResult]
@[simp] theorem setResult_stepNo (v : Word) : (s.setResult v).stepNo = s.stepNo := by
  simp only [setResult]
@[simp] theorem setResult_cmd (v : Word) : (s.setResult v).cmd = s.cmd := by
  simp only [setResult]
@[simp] theorem setResult_mack (v : Word) : (s.setResult v).mack = s.mack := by
  simp only [setResult]
@[simp] theorem setResult_err (v : Word) : (s.setResult v).err = s.err := by
  simp only [setResult]
@[simp] theorem setResult_fstep (v : Word) : (s.setResult v).fstep = s.fstep := by
  simp only [setResult]
@[simp] theorem setResult_acc (v : Word) : (s.setResult v).acc = s.acc := by
  simp only [setResult]
@[simp] theorem setResult_seeded (v : Word) : (s.setResult v).seeded = s.seeded := by
  simp only [setResult]
@[simp] theorem setResult_cuMode (v : Word) : (s.setResult v).cuMode = s.cuMode := by
  simp only [setResult]
@[simp] theorem setResult_result (v : Word) : (s.setResult v).result = v := by
  simp only [setResult]
@[simp] theorem setResult_raw (v : Word) : (s.setResult v).raw = s.raw := by
  simp only [setResult]
@[simp] theorem setResult_protf (v : Word) : (s.setResult v).protf = s.protf := by
  simp only [setResult]
@[simp] theorem setResult_tempf (v : Word) : (s.setResult v).tempf = s.tempf := by
  simp only [setResult]
@[simp] theorem setResult_fetf (v : Word) : (s.setResult v).fetf = s.fetf := by
  simp only [setResult]
@[simp] theorem setResult_cells (v : Word) : (s.setResult v).cells = s.cells := by
  simp only [setResult]
@[simp] theorem setResult_params (v : Word) : (s.setResult v).params = s.params := by
  simp only [setResult]
@[simp] theorem setResult_pending (v : Word) : (s.setResult v).pending = s.pending := by
  simp only [setResult]
@[simp] theorem setResult_late (v : Word) : (s.setResult v).late = s.late := by
  simp only [setResult]
@[simp] theorem setResult_port (v : Word) : (s.setResult v).port = s.port := by
  simp only [setResult]
@[simp] theorem setResult_inputs (v : Word) : (s.setResult v).inputs = s.inputs := by
  simp only [setResult]
@[simp] theorem setResult_trace (v : Word) : (s.setResult v).trace = s.trace := by
  simp only [setResult]
@[simp] theorem setResult_draws (v : Word) : (s.setResult v).draws = s.draws := by
  simp only [setResult]

/-! `csumClear` -/

@[simp] theorem csumClear_busy : (s.csumClear).busy = s.busy := by
  simp only [csumClear]
@[simp] theorem csumClear_stepNo : (s.csumClear).stepNo = s.stepNo := by
  simp only [csumClear]
@[simp] theorem csumClear_cmd : (s.csumClear).cmd = s.cmd := by
  simp only [csumClear]
@[simp] theorem csumClear_mack : (s.csumClear).mack = s.mack := by
  simp only [csumClear]
@[simp] theorem csumClear_err : (s.csumClear).err = s.err := by
  simp only [csumClear]
@[simp] theorem csumClear_fstep : (s.csumClear).fstep = s.fstep := by
  simp only [csumClear]
@[simp] theorem csumClear_acc : (s.csumClear).acc = 0x00 := by
  simp only [csumClear]
@[simp] theorem csumClear_seeded : (s.csumClear).seeded = false := by
  simp only [csumClear]
@[simp] theorem csumClear_cuMode : (s.csumClear).cuMode = s.cuMode := by
  simp only [csumClear]
@[simp] theorem csumClear_result : (s.csumClear).result = s.result := by
  simp only [csumClear]
@[simp] theorem csumClear_raw : (s.csumClear).raw = s.raw := by
  simp only [csumClear]
@[simp] theorem csumClear_protf : (s.csumClear).protf = s.protf := by
  simp only [csumClear]
@[simp] theorem csumClear_tempf : (s.csumClear).tempf = s.tempf := by
  simp only [csumClear]
@[simp] theorem csumClear_fetf : (s.csumClear).fetf = s.fetf := by
  simp only [csumClear]
@[simp] theorem csumClear_cells : (s.csumClear).cells = s.cells := by
  simp only [csumClear]
@[simp] theorem csumClear_params : (s.csumClear).params = s.params := by
  simp only [csumClear]
@[simp] theorem csumClear_pending : (s.csumClear).pending = s.pending := by
  simp only [csumClear]
@[simp] theorem csumClear_late : (s.csumClear).late = s.late := by
  simp only [csumClear]
@[simp] theorem csumClear_port : (s.csumClear).port = s.port := by
  simp only [csumClear]
@[simp] theorem csumClear_inputs : (s.csumClear).inputs = s.inputs := by
  simp only [csumClear]
@[simp] theorem csumClear_trace : (s.csumClear).trace = s.trace := by
  simp only [csumClear]
@[simp] theorem csumClear_draws : (s.csumClear).draws = s.draws := by
  simp only [csumClear]

/-! `csumPush` -/

@[simp] theorem csumPush_busy (b : Byte) : (s.csumPush b).busy = s.busy := by
  simp only [csumPush]
@[simp] theorem csumPush_stepNo (b : Byte) : (s.csumPush b).stepNo = s.stepNo := by
  simp only [csumPush]
@[simp] theorem csumPush_cmd (b : Byte) : (s.csumPush b).cmd = s.cmd := by
  simp only [csumPush]
@[simp] theorem csumPush_mack (b : Byte) : (s.csumPush b).mack = s.mack := by
  simp only [csumPush]
@[simp] theorem csumPush_err (b : Byte) : (s.csumPush b).err = s.err := by
  simp only [csumPush]
@[simp] theorem csumPush_fstep (b : Byte) : (s.csumPush b).fstep = s.fstep := by
  simp only [csumPush]
@[simp] theorem csumPush_acc (b : Byte) : (s.csumPush b).acc = if s.seeded then csumFold s.acc b else b := by
  simp only [csumPush]
@[simp] theorem csumPush_seeded (b : Byte) : (s.csumPush b).seeded = true := by
  simp only [csumPush]
@[simp] theorem csumPush_cuMode (b : Byte) : (s.csumPush b).cuMode = s.cuMode := by
  simp only [csumPush]
@[simp] theorem csumPush_result (b : Byte) : (s.csumPush b).result = s.result := by
  simp only [csumPush]
@[simp] theorem csumPush_raw (b : Byte) : (s.csumPush b).raw = s.raw := by
  simp only [csumPush]
@[simp] theorem csumPush_protf (b : Byte) : (s.csumPush b).protf = s.protf := by
  simp only [csumPush]
@[simp] theorem csumPush_tempf (b : Byte) : (s.csumPush b).tempf = s.tempf := by
  simp only [csumPush]
@[simp] theorem csumPush_fetf (b : Byte) : (s.csumPush b).fetf = s.fetf := by
  simp only [csumPush]
@[simp] theorem csumPush_cells (b : Byte) : (s.csumPush b).cells = s.cells := by
  simp only [csumPush]
@[simp] theorem csumPush_params (b : Byte) : (s.csumPush b).params = s.params := by
  simp only [csumPush]
@[simp] theorem csumPush_pending (b : Byte) : (s.csumPush b).pending = s.pending := by
  simp only [csumPush]
@[simp] theorem csumPush_late (b : Byte) : (s.csumPush b).late = s.late := by
  simp only [csumPush]
@[simp] theorem csumPush_port (b : Byte) : (s.csumPush b).port = s.port := by
  simp only [csumPush]
@[simp] theorem csumPush_inputs (b : Byte) : (s.csumPush b).inputs = s.inputs := by
  simp only [csumPush]
@[simp] theorem csumPush_trace (b : Byte) : (s.csumPush b).trace = s.trace := by
  simp only [csumPush]
@[simp] theorem csumPush_draws (b : Byte) : (s.csumPush b).draws = s.draws := by
  simp only [csumPush]

/-! `csumLoad` -/

/-- What `csum_load` does, whole (R133). -/
theorem csumLoad_eq (addr : Half) (val : Byte) :
    s.csumLoad addr val = { s with acc := csumAcc Config.devWr (dmChecksumTail addr val), seeded := true } := by
  simp only [csumLoad, dmChecksumTail, csumAcc, List.foldl_cons, List.foldl_nil, csumClear, csumPush, if_true]
  simp only [Bool.false_eq_true, if_false]

@[simp] theorem csumLoad_busy (addr : Half) (val : Byte) : (s.csumLoad addr val).busy = s.busy := by
  rw [csumLoad_eq]
@[simp] theorem csumLoad_stepNo (addr : Half) (val : Byte) : (s.csumLoad addr val).stepNo = s.stepNo := by
  rw [csumLoad_eq]
@[simp] theorem csumLoad_cmd (addr : Half) (val : Byte) : (s.csumLoad addr val).cmd = s.cmd := by
  rw [csumLoad_eq]
@[simp] theorem csumLoad_mack (addr : Half) (val : Byte) : (s.csumLoad addr val).mack = s.mack := by
  rw [csumLoad_eq]
@[simp] theorem csumLoad_err (addr : Half) (val : Byte) : (s.csumLoad addr val).err = s.err := by
  rw [csumLoad_eq]
@[simp] theorem csumLoad_fstep (addr : Half) (val : Byte) : (s.csumLoad addr val).fstep = s.fstep := by
  rw [csumLoad_eq]
@[simp] theorem csumLoad_acc (addr : Half) (val : Byte) : (s.csumLoad addr val).acc = csumAcc Config.devWr (dmChecksumTail addr val) := by
  rw [csumLoad_eq]
@[simp] theorem csumLoad_seeded (addr : Half) (val : Byte) : (s.csumLoad addr val).seeded = true := by
  rw [csumLoad_eq]
@[simp] theorem csumLoad_cuMode (addr : Half) (val : Byte) : (s.csumLoad addr val).cuMode = s.cuMode := by
  rw [csumLoad_eq]
@[simp] theorem csumLoad_result (addr : Half) (val : Byte) : (s.csumLoad addr val).result = s.result := by
  rw [csumLoad_eq]
@[simp] theorem csumLoad_raw (addr : Half) (val : Byte) : (s.csumLoad addr val).raw = s.raw := by
  rw [csumLoad_eq]
@[simp] theorem csumLoad_protf (addr : Half) (val : Byte) : (s.csumLoad addr val).protf = s.protf := by
  rw [csumLoad_eq]
@[simp] theorem csumLoad_tempf (addr : Half) (val : Byte) : (s.csumLoad addr val).tempf = s.tempf := by
  rw [csumLoad_eq]
@[simp] theorem csumLoad_fetf (addr : Half) (val : Byte) : (s.csumLoad addr val).fetf = s.fetf := by
  rw [csumLoad_eq]
@[simp] theorem csumLoad_cells (addr : Half) (val : Byte) : (s.csumLoad addr val).cells = s.cells := by
  rw [csumLoad_eq]
@[simp] theorem csumLoad_params (addr : Half) (val : Byte) : (s.csumLoad addr val).params = s.params := by
  rw [csumLoad_eq]
@[simp] theorem csumLoad_pending (addr : Half) (val : Byte) : (s.csumLoad addr val).pending = s.pending := by
  rw [csumLoad_eq]
@[simp] theorem csumLoad_late (addr : Half) (val : Byte) : (s.csumLoad addr val).late = s.late := by
  rw [csumLoad_eq]
@[simp] theorem csumLoad_port (addr : Half) (val : Byte) : (s.csumLoad addr val).port = s.port := by
  rw [csumLoad_eq]
@[simp] theorem csumLoad_inputs (addr : Half) (val : Byte) : (s.csumLoad addr val).inputs = s.inputs := by
  rw [csumLoad_eq]
@[simp] theorem csumLoad_trace (addr : Half) (val : Byte) : (s.csumLoad addr val).trace = s.trace := by
  rw [csumLoad_eq]
@[simp] theorem csumLoad_draws (addr : Half) (val : Byte) : (s.csumLoad addr val).draws = s.draws := by
  rw [csumLoad_eq]

/-! `setCell` -/

@[simp] theorem setCell_busy (i : Nat) : (s.setCell i).busy = s.busy := by
  simp only [setCell]
@[simp] theorem setCell_stepNo (i : Nat) : (s.setCell i).stepNo = s.stepNo := by
  simp only [setCell]
@[simp] theorem setCell_cmd (i : Nat) : (s.setCell i).cmd = s.cmd := by
  simp only [setCell]
@[simp] theorem setCell_mack (i : Nat) : (s.setCell i).mack = s.mack := by
  simp only [setCell]
@[simp] theorem setCell_err (i : Nat) : (s.setCell i).err = s.err := by
  simp only [setCell]
@[simp] theorem setCell_fstep (i : Nat) : (s.setCell i).fstep = s.fstep := by
  simp only [setCell]
@[simp] theorem setCell_acc (i : Nat) : (s.setCell i).acc = s.acc := by
  simp only [setCell]
@[simp] theorem setCell_seeded (i : Nat) : (s.setCell i).seeded = s.seeded := by
  simp only [setCell]
@[simp] theorem setCell_cuMode (i : Nat) : (s.setCell i).cuMode = s.cuMode := by
  simp only [setCell]
@[simp] theorem setCell_result (i : Nat) : (s.setCell i).result = s.result := by
  simp only [setCell]
@[simp] theorem setCell_raw (i : Nat) : (s.setCell i).raw = s.raw := by
  simp only [setCell]
@[simp] theorem setCell_protf (i : Nat) : (s.setCell i).protf = s.protf := by
  simp only [setCell]
@[simp] theorem setCell_tempf (i : Nat) : (s.setCell i).tempf = s.tempf := by
  simp only [setCell]
@[simp] theorem setCell_fetf (i : Nat) : (s.setCell i).fetf = s.fetf := by
  simp only [setCell]
@[simp] theorem setCell_cells (i : Nat) : (s.setCell i).cells = s.cells.setIfInBounds (i - 1) s.raw := by
  simp only [setCell]
@[simp] theorem setCell_params (i : Nat) : (s.setCell i).params = s.params := by
  simp only [setCell]
@[simp] theorem setCell_pending (i : Nat) : (s.setCell i).pending = s.pending := by
  simp only [setCell]
@[simp] theorem setCell_late (i : Nat) : (s.setCell i).late = s.late := by
  simp only [setCell]
@[simp] theorem setCell_port (i : Nat) : (s.setCell i).port = s.port := by
  simp only [setCell]
@[simp] theorem setCell_inputs (i : Nat) : (s.setCell i).inputs = s.inputs := by
  simp only [setCell]
@[simp] theorem setCell_trace (i : Nat) : (s.setCell i).trace = s.trace := by
  simp only [setCell]
@[simp] theorem setCell_draws (i : Nat) : (s.setCell i).draws = s.draws := by
  simp only [setCell]

/-! `decodeProt` -/

@[simp] theorem decodeProt_busy (b : Byte) : (s.decodeProt b).busy = s.busy := by
  simp only [decodeProt]
@[simp] theorem decodeProt_stepNo (b : Byte) : (s.decodeProt b).stepNo = s.stepNo := by
  simp only [decodeProt]
@[simp] theorem decodeProt_cmd (b : Byte) : (s.decodeProt b).cmd = s.cmd := by
  simp only [decodeProt]
@[simp] theorem decodeProt_mack (b : Byte) : (s.decodeProt b).mack = s.mack := by
  simp only [decodeProt]
@[simp] theorem decodeProt_err (b : Byte) : (s.decodeProt b).err = s.err := by
  simp only [decodeProt]
@[simp] theorem decodeProt_fstep (b : Byte) : (s.decodeProt b).fstep = s.fstep := by
  simp only [decodeProt]
@[simp] theorem decodeProt_acc (b : Byte) : (s.decodeProt b).acc = s.acc := by
  simp only [decodeProt]
@[simp] theorem decodeProt_seeded (b : Byte) : (s.decodeProt b).seeded = s.seeded := by
  simp only [decodeProt]
@[simp] theorem decodeProt_cuMode (b : Byte) : (s.decodeProt b).cuMode = s.cuMode := by
  simp only [decodeProt]
@[simp] theorem decodeProt_result (b : Byte) : (s.decodeProt b).result = (decProt s.params.protPos b).setWidth 32 := by
  simp only [decodeProt]
@[simp] theorem decodeProt_raw (b : Byte) : (s.decodeProt b).raw = s.raw := by
  simp only [decodeProt]
@[simp] theorem decodeProt_protf (b : Byte) : (s.decodeProt b).protf = decProt s.params.protPos b := by
  simp only [decodeProt]
@[simp] theorem decodeProt_tempf (b : Byte) : (s.decodeProt b).tempf = s.tempf := by
  simp only [decodeProt]
@[simp] theorem decodeProt_fetf (b : Byte) : (s.decodeProt b).fetf = s.fetf := by
  simp only [decodeProt]
@[simp] theorem decodeProt_cells (b : Byte) : (s.decodeProt b).cells = s.cells := by
  simp only [decodeProt]
@[simp] theorem decodeProt_params (b : Byte) : (s.decodeProt b).params = s.params := by
  simp only [decodeProt]
@[simp] theorem decodeProt_pending (b : Byte) : (s.decodeProt b).pending = s.pending := by
  simp only [decodeProt]
@[simp] theorem decodeProt_late (b : Byte) : (s.decodeProt b).late = s.late := by
  simp only [decodeProt]
@[simp] theorem decodeProt_port (b : Byte) : (s.decodeProt b).port = s.port := by
  simp only [decodeProt]
@[simp] theorem decodeProt_inputs (b : Byte) : (s.decodeProt b).inputs = s.inputs := by
  simp only [decodeProt]
@[simp] theorem decodeProt_trace (b : Byte) : (s.decodeProt b).trace = s.trace := by
  simp only [decodeProt]
@[simp] theorem decodeProt_draws (b : Byte) : (s.decodeProt b).draws = s.draws := by
  simp only [decodeProt]

/-! `decodeTemp` -/

@[simp] theorem decodeTemp_busy (b : Byte) : (s.decodeTemp b).busy = s.busy := by
  simp only [decodeTemp]
@[simp] theorem decodeTemp_stepNo (b : Byte) : (s.decodeTemp b).stepNo = s.stepNo := by
  simp only [decodeTemp]
@[simp] theorem decodeTemp_cmd (b : Byte) : (s.decodeTemp b).cmd = s.cmd := by
  simp only [decodeTemp]
@[simp] theorem decodeTemp_mack (b : Byte) : (s.decodeTemp b).mack = s.mack := by
  simp only [decodeTemp]
@[simp] theorem decodeTemp_err (b : Byte) : (s.decodeTemp b).err = s.err := by
  simp only [decodeTemp]
@[simp] theorem decodeTemp_fstep (b : Byte) : (s.decodeTemp b).fstep = s.fstep := by
  simp only [decodeTemp]
@[simp] theorem decodeTemp_acc (b : Byte) : (s.decodeTemp b).acc = s.acc := by
  simp only [decodeTemp]
@[simp] theorem decodeTemp_seeded (b : Byte) : (s.decodeTemp b).seeded = s.seeded := by
  simp only [decodeTemp]
@[simp] theorem decodeTemp_cuMode (b : Byte) : (s.decodeTemp b).cuMode = s.cuMode := by
  simp only [decodeTemp]
@[simp] theorem decodeTemp_result (b : Byte) : (s.decodeTemp b).result = (decTemp s.params.tempPos b).setWidth 32 := by
  simp only [decodeTemp]
@[simp] theorem decodeTemp_raw (b : Byte) : (s.decodeTemp b).raw = s.raw := by
  simp only [decodeTemp]
@[simp] theorem decodeTemp_protf (b : Byte) : (s.decodeTemp b).protf = s.protf := by
  simp only [decodeTemp]
@[simp] theorem decodeTemp_tempf (b : Byte) : (s.decodeTemp b).tempf = decTemp s.params.tempPos b := by
  simp only [decodeTemp]
@[simp] theorem decodeTemp_fetf (b : Byte) : (s.decodeTemp b).fetf = s.fetf := by
  simp only [decodeTemp]
@[simp] theorem decodeTemp_cells (b : Byte) : (s.decodeTemp b).cells = s.cells := by
  simp only [decodeTemp]
@[simp] theorem decodeTemp_params (b : Byte) : (s.decodeTemp b).params = s.params := by
  simp only [decodeTemp]
@[simp] theorem decodeTemp_pending (b : Byte) : (s.decodeTemp b).pending = s.pending := by
  simp only [decodeTemp]
@[simp] theorem decodeTemp_late (b : Byte) : (s.decodeTemp b).late = s.late := by
  simp only [decodeTemp]
@[simp] theorem decodeTemp_port (b : Byte) : (s.decodeTemp b).port = s.port := by
  simp only [decodeTemp]
@[simp] theorem decodeTemp_inputs (b : Byte) : (s.decodeTemp b).inputs = s.inputs := by
  simp only [decodeTemp]
@[simp] theorem decodeTemp_trace (b : Byte) : (s.decodeTemp b).trace = s.trace := by
  simp only [decodeTemp]
@[simp] theorem decodeTemp_draws (b : Byte) : (s.decodeTemp b).draws = s.draws := by
  simp only [decodeTemp]

/-! `decodeFet` -/

@[simp] theorem decodeFet_busy (b : Byte) : (s.decodeFet b).busy = s.busy := by
  simp only [decodeFet]
@[simp] theorem decodeFet_stepNo (b : Byte) : (s.decodeFet b).stepNo = s.stepNo := by
  simp only [decodeFet]
@[simp] theorem decodeFet_cmd (b : Byte) : (s.decodeFet b).cmd = s.cmd := by
  simp only [decodeFet]
@[simp] theorem decodeFet_mack (b : Byte) : (s.decodeFet b).mack = s.mack := by
  simp only [decodeFet]
@[simp] theorem decodeFet_err (b : Byte) : (s.decodeFet b).err = s.err := by
  simp only [decodeFet]
@[simp] theorem decodeFet_fstep (b : Byte) : (s.decodeFet b).fstep = s.fstep := by
  simp only [decodeFet]
@[simp] theorem decodeFet_acc (b : Byte) : (s.decodeFet b).acc = s.acc := by
  simp only [decodeFet]
@[simp] theorem decodeFet_seeded (b : Byte) : (s.decodeFet b).seeded = s.seeded := by
  simp only [decodeFet]
@[simp] theorem decodeFet_cuMode (b : Byte) : (s.decodeFet b).cuMode = s.cuMode := by
  simp only [decodeFet]
@[simp] theorem decodeFet_result (b : Byte) : (s.decodeFet b).result = s.result := by
  simp only [decodeFet]
@[simp] theorem decodeFet_raw (b : Byte) : (s.decodeFet b).raw = s.raw := by
  simp only [decodeFet]
@[simp] theorem decodeFet_protf (b : Byte) : (s.decodeFet b).protf = s.protf := by
  simp only [decodeFet]
@[simp] theorem decodeFet_tempf (b : Byte) : (s.decodeFet b).tempf = s.tempf := by
  simp only [decodeFet]
@[simp] theorem decodeFet_fetf (b : Byte) : (s.decodeFet b).fetf = decFet b := by
  simp only [decodeFet]
@[simp] theorem decodeFet_cells (b : Byte) : (s.decodeFet b).cells = s.cells := by
  simp only [decodeFet]
@[simp] theorem decodeFet_params (b : Byte) : (s.decodeFet b).params = s.params := by
  simp only [decodeFet]
@[simp] theorem decodeFet_pending (b : Byte) : (s.decodeFet b).pending = s.pending := by
  simp only [decodeFet]
@[simp] theorem decodeFet_late (b : Byte) : (s.decodeFet b).late = s.late := by
  simp only [decodeFet]
@[simp] theorem decodeFet_port (b : Byte) : (s.decodeFet b).port = s.port := by
  simp only [decodeFet]
@[simp] theorem decodeFet_inputs (b : Byte) : (s.decodeFet b).inputs = s.inputs := by
  simp only [decodeFet]
@[simp] theorem decodeFet_trace (b : Byte) : (s.decodeFet b).trace = s.trace := by
  simp only [decodeFet]
@[simp] theorem decodeFet_draws (b : Byte) : (s.decodeFet b).draws = s.draws := by
  simp only [decodeFet]

/-! `latch` -/

@[simp] theorem latch_busy (w : CmdWord) (rest : List CmdWord) : (s.latch w rest).busy = s.busy := by
  simp only [latch]
@[simp] theorem latch_stepNo (w : CmdWord) (rest : List CmdWord) : (s.latch w rest).stepNo = s.stepNo := by
  simp only [latch]
@[simp] theorem latch_cmd (w : CmdWord) (rest : List CmdWord) : (s.latch w rest).cmd = w := by
  simp only [latch]
@[simp] theorem latch_mack (w : CmdWord) (rest : List CmdWord) : (s.latch w rest).mack = s.mack := by
  simp only [latch]
@[simp] theorem latch_err (w : CmdWord) (rest : List CmdWord) : (s.latch w rest).err = s.err := by
  simp only [latch]
@[simp] theorem latch_fstep (w : CmdWord) (rest : List CmdWord) : (s.latch w rest).fstep = s.fstep := by
  simp only [latch]
@[simp] theorem latch_acc (w : CmdWord) (rest : List CmdWord) : (s.latch w rest).acc = s.acc := by
  simp only [latch]
@[simp] theorem latch_seeded (w : CmdWord) (rest : List CmdWord) : (s.latch w rest).seeded = s.seeded := by
  simp only [latch]
@[simp] theorem latch_cuMode (w : CmdWord) (rest : List CmdWord) : (s.latch w rest).cuMode = s.cuMode := by
  simp only [latch]
@[simp] theorem latch_result (w : CmdWord) (rest : List CmdWord) : (s.latch w rest).result = s.result := by
  simp only [latch]
@[simp] theorem latch_raw (w : CmdWord) (rest : List CmdWord) : (s.latch w rest).raw = s.raw := by
  simp only [latch]
@[simp] theorem latch_protf (w : CmdWord) (rest : List CmdWord) : (s.latch w rest).protf = s.protf := by
  simp only [latch]
@[simp] theorem latch_tempf (w : CmdWord) (rest : List CmdWord) : (s.latch w rest).tempf = s.tempf := by
  simp only [latch]
@[simp] theorem latch_fetf (w : CmdWord) (rest : List CmdWord) : (s.latch w rest).fetf = s.fetf := by
  simp only [latch]
@[simp] theorem latch_cells (w : CmdWord) (rest : List CmdWord) : (s.latch w rest).cells = s.cells := by
  simp only [latch]
@[simp] theorem latch_params (w : CmdWord) (rest : List CmdWord) : (s.latch w rest).params = s.params := by
  simp only [latch]
@[simp] theorem latch_pending (w : CmdWord) (rest : List CmdWord) : (s.latch w rest).pending = s.pending := by
  simp only [latch]
@[simp] theorem latch_late (w : CmdWord) (rest : List CmdWord) : (s.latch w rest).late = s.late := by
  simp only [latch]
@[simp] theorem latch_port (w : CmdWord) (rest : List CmdWord) : (s.latch w rest).port = rest := by
  simp only [latch]
@[simp] theorem latch_inputs (w : CmdWord) (rest : List CmdWord) : (s.latch w rest).inputs = s.inputs := by
  simp only [latch]
@[simp] theorem latch_trace (w : CmdWord) (rest : List CmdWord) : (s.latch w rest).trace = s.trace ++ [.accept w] := by
  simp only [latch]
@[simp] theorem latch_draws (w : CmdWord) (rest : List CmdWord) : (s.latch w rest).draws = s.draws := by
  simp only [latch]

/-! `discard` -/

@[simp] theorem discard_busy (a : Answer) (rest : List Input) : (s.discard a rest).busy = s.busy := by
  simp only [discard]
@[simp] theorem discard_stepNo (a : Answer) (rest : List Input) : (s.discard a rest).stepNo = s.stepNo := by
  simp only [discard]
@[simp] theorem discard_cmd (a : Answer) (rest : List Input) : (s.discard a rest).cmd = s.cmd := by
  simp only [discard]
@[simp] theorem discard_mack (a : Answer) (rest : List Input) : (s.discard a rest).mack = s.mack := by
  simp only [discard]
@[simp] theorem discard_err (a : Answer) (rest : List Input) : (s.discard a rest).err = s.err := by
  simp only [discard]
@[simp] theorem discard_fstep (a : Answer) (rest : List Input) : (s.discard a rest).fstep = s.fstep := by
  simp only [discard]
@[simp] theorem discard_acc (a : Answer) (rest : List Input) : (s.discard a rest).acc = s.acc := by
  simp only [discard]
@[simp] theorem discard_seeded (a : Answer) (rest : List Input) : (s.discard a rest).seeded = s.seeded := by
  simp only [discard]
@[simp] theorem discard_cuMode (a : Answer) (rest : List Input) : (s.discard a rest).cuMode = s.cuMode := by
  simp only [discard]
@[simp] theorem discard_result (a : Answer) (rest : List Input) : (s.discard a rest).result = s.result := by
  simp only [discard]
@[simp] theorem discard_raw (a : Answer) (rest : List Input) : (s.discard a rest).raw = s.raw := by
  simp only [discard]
@[simp] theorem discard_protf (a : Answer) (rest : List Input) : (s.discard a rest).protf = s.protf := by
  simp only [discard]
@[simp] theorem discard_tempf (a : Answer) (rest : List Input) : (s.discard a rest).tempf = s.tempf := by
  simp only [discard]
@[simp] theorem discard_fetf (a : Answer) (rest : List Input) : (s.discard a rest).fetf = s.fetf := by
  simp only [discard]
@[simp] theorem discard_cells (a : Answer) (rest : List Input) : (s.discard a rest).cells = s.cells := by
  simp only [discard]
@[simp] theorem discard_params (a : Answer) (rest : List Input) : (s.discard a rest).params = s.params := by
  simp only [discard]
@[simp] theorem discard_pending (a : Answer) (rest : List Input) : (s.discard a rest).pending = s.pending := by
  simp only [discard]
@[simp] theorem discard_late (a : Answer) (rest : List Input) : (s.discard a rest).late = s.late := by
  simp only [discard]
@[simp] theorem discard_port (a : Answer) (rest : List Input) : (s.discard a rest).port = s.port := by
  simp only [discard]
@[simp] theorem discard_inputs (a : Answer) (rest : List Input) : (s.discard a rest).inputs = rest := by
  simp only [discard]
@[simp] theorem discard_trace (a : Answer) (rest : List Input) : (s.discard a rest).trace = s.trace ++ [.discarded a] := by
  simp only [discard]
@[simp] theorem discard_draws (a : Answer) (rest : List Input) : (s.discard a rest).draws = s.draws := by
  simp only [discard]

/-! `presentWord` -/

@[simp] theorem presentWord_busy (w : CmdWord) (rest : List Input) : (s.presentWord w rest).busy = s.busy := by
  simp only [presentWord]
@[simp] theorem presentWord_stepNo (w : CmdWord) (rest : List Input) : (s.presentWord w rest).stepNo = s.stepNo := by
  simp only [presentWord]
@[simp] theorem presentWord_cmd (w : CmdWord) (rest : List Input) : (s.presentWord w rest).cmd = s.cmd := by
  simp only [presentWord]
@[simp] theorem presentWord_mack (w : CmdWord) (rest : List Input) : (s.presentWord w rest).mack = s.mack := by
  simp only [presentWord]
@[simp] theorem presentWord_err (w : CmdWord) (rest : List Input) : (s.presentWord w rest).err = s.err := by
  simp only [presentWord]
@[simp] theorem presentWord_fstep (w : CmdWord) (rest : List Input) : (s.presentWord w rest).fstep = s.fstep := by
  simp only [presentWord]
@[simp] theorem presentWord_acc (w : CmdWord) (rest : List Input) : (s.presentWord w rest).acc = s.acc := by
  simp only [presentWord]
@[simp] theorem presentWord_seeded (w : CmdWord) (rest : List Input) : (s.presentWord w rest).seeded = s.seeded := by
  simp only [presentWord]
@[simp] theorem presentWord_cuMode (w : CmdWord) (rest : List Input) : (s.presentWord w rest).cuMode = s.cuMode := by
  simp only [presentWord]
@[simp] theorem presentWord_result (w : CmdWord) (rest : List Input) : (s.presentWord w rest).result = s.result := by
  simp only [presentWord]
@[simp] theorem presentWord_raw (w : CmdWord) (rest : List Input) : (s.presentWord w rest).raw = s.raw := by
  simp only [presentWord]
@[simp] theorem presentWord_protf (w : CmdWord) (rest : List Input) : (s.presentWord w rest).protf = s.protf := by
  simp only [presentWord]
@[simp] theorem presentWord_tempf (w : CmdWord) (rest : List Input) : (s.presentWord w rest).tempf = s.tempf := by
  simp only [presentWord]
@[simp] theorem presentWord_fetf (w : CmdWord) (rest : List Input) : (s.presentWord w rest).fetf = s.fetf := by
  simp only [presentWord]
@[simp] theorem presentWord_cells (w : CmdWord) (rest : List Input) : (s.presentWord w rest).cells = s.cells := by
  simp only [presentWord]
@[simp] theorem presentWord_params (w : CmdWord) (rest : List Input) : (s.presentWord w rest).params = s.params := by
  simp only [presentWord]
@[simp] theorem presentWord_pending (w : CmdWord) (rest : List Input) : (s.presentWord w rest).pending = s.pending := by
  simp only [presentWord]
@[simp] theorem presentWord_late (w : CmdWord) (rest : List Input) : (s.presentWord w rest).late = s.late := by
  simp only [presentWord]
@[simp] theorem presentWord_port (w : CmdWord) (rest : List Input) : (s.presentWord w rest).port = s.port ++ [w] := by
  simp only [presentWord]
@[simp] theorem presentWord_inputs (w : CmdWord) (rest : List Input) : (s.presentWord w rest).inputs = rest := by
  simp only [presentWord]
@[simp] theorem presentWord_trace (w : CmdWord) (rest : List Input) : (s.presentWord w rest).trace = s.trace := by
  simp only [presentWord]
@[simp] theorem presentWord_draws (w : CmdWord) (rest : List Input) : (s.presentWord w rest).draws = s.draws := by
  simp only [presentWord]

/-! `transportReset` -/

@[simp] theorem transportReset_busy (rest : List Input) : (s.transportReset rest).busy = s.busy := by
  simp only [transportReset]
@[simp] theorem transportReset_stepNo (rest : List Input) : (s.transportReset rest).stepNo = s.stepNo := by
  simp only [transportReset]
@[simp] theorem transportReset_cmd (rest : List Input) : (s.transportReset rest).cmd = s.cmd := by
  simp only [transportReset]
@[simp] theorem transportReset_mack (rest : List Input) : (s.transportReset rest).mack = s.mack := by
  simp only [transportReset]
@[simp] theorem transportReset_err (rest : List Input) : (s.transportReset rest).err = s.err := by
  simp only [transportReset]
@[simp] theorem transportReset_fstep (rest : List Input) : (s.transportReset rest).fstep = s.fstep := by
  simp only [transportReset]
@[simp] theorem transportReset_acc (rest : List Input) : (s.transportReset rest).acc = s.acc := by
  simp only [transportReset]
@[simp] theorem transportReset_seeded (rest : List Input) : (s.transportReset rest).seeded = s.seeded := by
  simp only [transportReset]
@[simp] theorem transportReset_cuMode (rest : List Input) : (s.transportReset rest).cuMode = s.cuMode := by
  simp only [transportReset]
@[simp] theorem transportReset_result (rest : List Input) : (s.transportReset rest).result = s.result := by
  simp only [transportReset]
@[simp] theorem transportReset_raw (rest : List Input) : (s.transportReset rest).raw = s.raw := by
  simp only [transportReset]
@[simp] theorem transportReset_protf (rest : List Input) : (s.transportReset rest).protf = s.protf := by
  simp only [transportReset]
@[simp] theorem transportReset_tempf (rest : List Input) : (s.transportReset rest).tempf = s.tempf := by
  simp only [transportReset]
@[simp] theorem transportReset_fetf (rest : List Input) : (s.transportReset rest).fetf = s.fetf := by
  simp only [transportReset]
@[simp] theorem transportReset_cells (rest : List Input) : (s.transportReset rest).cells = s.cells := by
  simp only [transportReset]
@[simp] theorem transportReset_params (rest : List Input) : (s.transportReset rest).params = s.params := by
  simp only [transportReset]
@[simp] theorem transportReset_pending (rest : List Input) : (s.transportReset rest).pending = s.pending := by
  simp only [transportReset]
@[simp] theorem transportReset_late (rest : List Input) : (s.transportReset rest).late = s.late.filter (fun r => !r.isBus) := by
  simp only [transportReset]
@[simp] theorem transportReset_port (rest : List Input) : (s.transportReset rest).port = s.port := by
  simp only [transportReset]
@[simp] theorem transportReset_inputs (rest : List Input) : (s.transportReset rest).inputs = rest := by
  simp only [transportReset]
@[simp] theorem transportReset_trace (rest : List Input) : (s.transportReset rest).trace = s.trace ++ [.transportReset] := by
  simp only [transportReset]
@[simp] theorem transportReset_draws (rest : List Input) : (s.transportReset rest).draws = s.draws := by
  simp only [transportReset]

/-! `passMoment` -/

@[simp] theorem passMoment_busy (rest : List Input) : (s.passMoment rest).busy = s.busy := by
  simp only [passMoment]
@[simp] theorem passMoment_stepNo (rest : List Input) : (s.passMoment rest).stepNo = s.stepNo := by
  simp only [passMoment]
@[simp] theorem passMoment_cmd (rest : List Input) : (s.passMoment rest).cmd = s.cmd := by
  simp only [passMoment]
@[simp] theorem passMoment_mack (rest : List Input) : (s.passMoment rest).mack = s.mack := by
  simp only [passMoment]
@[simp] theorem passMoment_err (rest : List Input) : (s.passMoment rest).err = s.err := by
  simp only [passMoment]
@[simp] theorem passMoment_fstep (rest : List Input) : (s.passMoment rest).fstep = s.fstep := by
  simp only [passMoment]
@[simp] theorem passMoment_acc (rest : List Input) : (s.passMoment rest).acc = s.acc := by
  simp only [passMoment]
@[simp] theorem passMoment_seeded (rest : List Input) : (s.passMoment rest).seeded = s.seeded := by
  simp only [passMoment]
@[simp] theorem passMoment_cuMode (rest : List Input) : (s.passMoment rest).cuMode = s.cuMode := by
  simp only [passMoment]
@[simp] theorem passMoment_result (rest : List Input) : (s.passMoment rest).result = s.result := by
  simp only [passMoment]
@[simp] theorem passMoment_raw (rest : List Input) : (s.passMoment rest).raw = s.raw := by
  simp only [passMoment]
@[simp] theorem passMoment_protf (rest : List Input) : (s.passMoment rest).protf = s.protf := by
  simp only [passMoment]
@[simp] theorem passMoment_tempf (rest : List Input) : (s.passMoment rest).tempf = s.tempf := by
  simp only [passMoment]
@[simp] theorem passMoment_fetf (rest : List Input) : (s.passMoment rest).fetf = s.fetf := by
  simp only [passMoment]
@[simp] theorem passMoment_cells (rest : List Input) : (s.passMoment rest).cells = s.cells := by
  simp only [passMoment]
@[simp] theorem passMoment_params (rest : List Input) : (s.passMoment rest).params = s.params := by
  simp only [passMoment]
@[simp] theorem passMoment_pending (rest : List Input) : (s.passMoment rest).pending = s.pending := by
  simp only [passMoment]
@[simp] theorem passMoment_late (rest : List Input) : (s.passMoment rest).late = s.late := by
  simp only [passMoment]
@[simp] theorem passMoment_port (rest : List Input) : (s.passMoment rest).port = s.port := by
  simp only [passMoment]
@[simp] theorem passMoment_inputs (rest : List Input) : (s.passMoment rest).inputs = rest := by
  simp only [passMoment]
@[simp] theorem passMoment_trace (rest : List Input) : (s.passMoment rest).trace = s.trace := by
  simp only [passMoment]
@[simp] theorem passMoment_draws (rest : List Input) : (s.passMoment rest).draws = s.draws := by
  simp only [passMoment]

/-! `readPort` -/

@[simp] theorem readPort_busy (n : RegNo) (rest : List Input) : (s.readPort n rest).busy = s.busy := by
  simp only [readPort]
@[simp] theorem readPort_stepNo (n : RegNo) (rest : List Input) : (s.readPort n rest).stepNo = s.stepNo := by
  simp only [readPort]
@[simp] theorem readPort_cmd (n : RegNo) (rest : List Input) : (s.readPort n rest).cmd = s.cmd := by
  simp only [readPort]
@[simp] theorem readPort_mack (n : RegNo) (rest : List Input) : (s.readPort n rest).mack = s.mack := by
  simp only [readPort]
@[simp] theorem readPort_err (n : RegNo) (rest : List Input) : (s.readPort n rest).err = s.err := by
  simp only [readPort]
@[simp] theorem readPort_fstep (n : RegNo) (rest : List Input) : (s.readPort n rest).fstep = s.fstep := by
  simp only [readPort]
@[simp] theorem readPort_acc (n : RegNo) (rest : List Input) : (s.readPort n rest).acc = s.acc := by
  simp only [readPort]
@[simp] theorem readPort_seeded (n : RegNo) (rest : List Input) : (s.readPort n rest).seeded = s.seeded := by
  simp only [readPort]
@[simp] theorem readPort_cuMode (n : RegNo) (rest : List Input) : (s.readPort n rest).cuMode = s.cuMode := by
  simp only [readPort]
@[simp] theorem readPort_result (n : RegNo) (rest : List Input) : (s.readPort n rest).result = s.result := by
  simp only [readPort]
@[simp] theorem readPort_raw (n : RegNo) (rest : List Input) : (s.readPort n rest).raw = s.raw := by
  simp only [readPort]
@[simp] theorem readPort_protf (n : RegNo) (rest : List Input) : (s.readPort n rest).protf = s.protf := by
  simp only [readPort]
@[simp] theorem readPort_tempf (n : RegNo) (rest : List Input) : (s.readPort n rest).tempf = s.tempf := by
  simp only [readPort]
@[simp] theorem readPort_fetf (n : RegNo) (rest : List Input) : (s.readPort n rest).fetf = s.fetf := by
  simp only [readPort]
@[simp] theorem readPort_cells (n : RegNo) (rest : List Input) : (s.readPort n rest).cells = s.cells := by
  simp only [readPort]
@[simp] theorem readPort_params (n : RegNo) (rest : List Input) : (s.readPort n rest).params = s.params := by
  simp only [readPort]
@[simp] theorem readPort_pending (n : RegNo) (rest : List Input) : (s.readPort n rest).pending = s.pending := by
  simp only [readPort]
@[simp] theorem readPort_late (n : RegNo) (rest : List Input) : (s.readPort n rest).late = s.late := by
  simp only [readPort]
@[simp] theorem readPort_port (n : RegNo) (rest : List Input) : (s.readPort n rest).port = s.port := by
  simp only [readPort]
@[simp] theorem readPort_inputs (n : RegNo) (rest : List Input) : (s.readPort n rest).inputs = rest := by
  simp only [readPort]
@[simp] theorem readPort_trace (n : RegNo) (rest : List Input) : (s.readPort n rest).trace = s.trace ++ [.hostRead n (s.hostRead n)] := by
  simp only [readPort]
@[simp] theorem readPort_draws (n : RegNo) (rest : List Input) : (s.readPort n rest).draws = if s.busy then s.draws + 1 else s.draws := by
  simp only [readPort]

/-! `noteNack` and `settle`: what does not depend on the answer. -/

@[simp] theorem noteNack_busy (n : Nat) (ok : Bool) : (s.noteNack n ok).busy = s.busy := by
  simp only [noteNack]; split <;> (try split) <;> simp only []
@[simp] theorem noteNack_stepNo (n : Nat) (ok : Bool) : (s.noteNack n ok).stepNo = s.stepNo := by
  simp only [noteNack]; split <;> (try split) <;> simp only []
@[simp] theorem noteNack_cmd (n : Nat) (ok : Bool) : (s.noteNack n ok).cmd = s.cmd := by
  simp only [noteNack]; split <;> (try split) <;> simp only []
@[simp] theorem noteNack_mack (n : Nat) (ok : Bool) : (s.noteNack n ok).mack = s.mack := by
  simp only [noteNack]; split <;> (try split) <;> simp only []
@[simp] theorem noteNack_acc (n : Nat) (ok : Bool) : (s.noteNack n ok).acc = s.acc := by
  simp only [noteNack]; split <;> (try split) <;> simp only []
@[simp] theorem noteNack_seeded (n : Nat) (ok : Bool) : (s.noteNack n ok).seeded = s.seeded := by
  simp only [noteNack]; split <;> (try split) <;> simp only []
@[simp] theorem noteNack_cuMode (n : Nat) (ok : Bool) : (s.noteNack n ok).cuMode = s.cuMode := by
  simp only [noteNack]; split <;> (try split) <;> simp only []
@[simp] theorem noteNack_result (n : Nat) (ok : Bool) : (s.noteNack n ok).result = s.result := by
  simp only [noteNack]; split <;> (try split) <;> simp only []
@[simp] theorem noteNack_raw (n : Nat) (ok : Bool) : (s.noteNack n ok).raw = s.raw := by
  simp only [noteNack]; split <;> (try split) <;> simp only []
@[simp] theorem noteNack_protf (n : Nat) (ok : Bool) : (s.noteNack n ok).protf = s.protf := by
  simp only [noteNack]; split <;> (try split) <;> simp only []
@[simp] theorem noteNack_tempf (n : Nat) (ok : Bool) : (s.noteNack n ok).tempf = s.tempf := by
  simp only [noteNack]; split <;> (try split) <;> simp only []
@[simp] theorem noteNack_fetf (n : Nat) (ok : Bool) : (s.noteNack n ok).fetf = s.fetf := by
  simp only [noteNack]; split <;> (try split) <;> simp only []
@[simp] theorem noteNack_cells (n : Nat) (ok : Bool) : (s.noteNack n ok).cells = s.cells := by
  simp only [noteNack]; split <;> (try split) <;> simp only []
@[simp] theorem noteNack_params (n : Nat) (ok : Bool) : (s.noteNack n ok).params = s.params := by
  simp only [noteNack]; split <;> (try split) <;> simp only []
@[simp] theorem noteNack_pending (n : Nat) (ok : Bool) : (s.noteNack n ok).pending = s.pending := by
  simp only [noteNack]; split <;> (try split) <;> simp only []
@[simp] theorem noteNack_late (n : Nat) (ok : Bool) : (s.noteNack n ok).late = s.late := by
  simp only [noteNack]; split <;> (try split) <;> simp only []
@[simp] theorem noteNack_port (n : Nat) (ok : Bool) : (s.noteNack n ok).port = s.port := by
  simp only [noteNack]; split <;> (try split) <;> simp only []
@[simp] theorem noteNack_inputs (n : Nat) (ok : Bool) : (s.noteNack n ok).inputs = s.inputs := by
  simp only [noteNack]; split <;> (try split) <;> simp only []
@[simp] theorem noteNack_trace (n : Nat) (ok : Bool) : (s.noteNack n ok).trace = s.trace := by
  simp only [noteNack]; split <;> (try split) <;> simp only []
@[simp] theorem noteNack_draws (n : Nat) (ok : Bool) : (s.noteNack n ok).draws = s.draws := by
  simp only [noteNack]; split <;> (try split) <;> simp only []
@[simp] theorem settle_busy (m : CuMode) : (s.settle m).busy = s.busy := by
  unfold settle; split <;> rfl
@[simp] theorem settle_stepNo (m : CuMode) : (s.settle m).stepNo = s.stepNo := by
  unfold settle; split <;> rfl
@[simp] theorem settle_cmd (m : CuMode) : (s.settle m).cmd = s.cmd := by
  unfold settle; split <;> rfl
@[simp] theorem settle_mack (m : CuMode) : (s.settle m).mack = s.mack := by
  unfold settle; split <;> rfl
@[simp] theorem settle_err (m : CuMode) : (s.settle m).err = s.err := by
  unfold settle; split <;> rfl
@[simp] theorem settle_fstep (m : CuMode) : (s.settle m).fstep = s.fstep := by
  unfold settle; split <;> rfl
@[simp] theorem settle_acc (m : CuMode) : (s.settle m).acc = s.acc := by
  unfold settle; split <;> rfl
@[simp] theorem settle_seeded (m : CuMode) : (s.settle m).seeded = s.seeded := by
  unfold settle; split <;> rfl
@[simp] theorem settle_result (m : CuMode) : (s.settle m).result = s.result := by
  unfold settle; split <;> rfl
@[simp] theorem settle_raw (m : CuMode) : (s.settle m).raw = s.raw := by
  unfold settle; split <;> rfl
@[simp] theorem settle_protf (m : CuMode) : (s.settle m).protf = s.protf := by
  unfold settle; split <;> rfl
@[simp] theorem settle_tempf (m : CuMode) : (s.settle m).tempf = s.tempf := by
  unfold settle; split <;> rfl
@[simp] theorem settle_fetf (m : CuMode) : (s.settle m).fetf = s.fetf := by
  unfold settle; split <;> rfl
@[simp] theorem settle_cells (m : CuMode) : (s.settle m).cells = s.cells := by
  unfold settle; split <;> rfl
@[simp] theorem settle_params (m : CuMode) : (s.settle m).params = s.params := by
  unfold settle; split <;> rfl
@[simp] theorem settle_pending (m : CuMode) : (s.settle m).pending = s.pending := by
  unfold settle; split <;> rfl
@[simp] theorem settle_late (m : CuMode) : (s.settle m).late = s.late := by
  unfold settle; split <;> rfl
@[simp] theorem settle_port (m : CuMode) : (s.settle m).port = s.port := by
  unfold settle; split <;> rfl
@[simp] theorem settle_inputs (m : CuMode) : (s.settle m).inputs = s.inputs := by
  unfold settle; split <;> rfl
@[simp] theorem settle_trace (m : CuMode) : (s.settle m).trace = s.trace := by
  unfold settle; split <;> rfl
@[simp] theorem settle_draws (m : CuMode) : (s.settle m).draws = s.draws := by
  unfold settle; split <;> rfl

/-- An acknowledged write records nothing (R181). -/
@[simp] theorem noteNack_ok (n : Nat) : s.noteNack n true = s := rfl

/-- The first refusal of a command is recorded (R181). -/
theorem noteNack_first (n : Nat) (h : s.err = .ok) :
    s.noteNack n false = { s with err := .busNack, fstep := BitVec.ofNat 6 n } := by
  simp [noteNack, h]

/-- A later refusal changes nothing (R181). -/
theorem noteNack_later (n : Nat) (ok : Bool) (h : s.err ≠ .ok) : s.noteNack n ok = s := by
  simp [noteNack, h]

/-- The shadow after a settle delay (R121, R122). -/
theorem settle_cuMode (m : CuMode) : (s.settle m).cuMode = if s.mack then m else s.cuMode := by
  unfold settle; split <;> rfl

end Sys2Proof.Machine.State
end

