-- ==== Sys2Proof/Laws/Ops.lean ====
section
/-! SUPPORT. One lemma for each shared operation that says everything it can do, for later proofs to cite. -/

namespace Sys2Proof.Machine

/-! Fields and flags, bit by bit. -/

/-- A placed field, bit by bit. -/
theorem getLsbD_placed {n : Nat} (v : BitVec n) (lo i : Nat) :
    (placed v lo).getLsbD i = (decide (i < 32) && !decide (i < lo) && v.getLsbD (i - lo)) := by
  simp only [placed, BitVec.getLsbD_shiftLeft, BitVec.getLsbD_setWidth]
  by_cases h : i < 32
  · have : i - lo < 32 := by omega
    simp [h, this]
  · simp [h]

/-- Packed flags, bit by bit. -/
theorem getLsbD_packFlags (n : Nat) (flags : List Bool) (i : Nat) :
    (packFlags n flags).getLsbD i = (decide (i < n) && flags.getD i false) := by
  simp [packFlags]

/-! Awaiting an answer (R24, R190): either the awaited answer is taken, or nothing changes. -/

theorem onWrite_answer {s : State} {k : Bool → State → State} {ok : Bool} {rest : List Input}
    (h : s.inputs = .answer (.wrote ok) :: rest) : onWrite s k = .next (k ok (s.take (.wrote ok) rest)) := by
  simp only [onWrite, h]

theorem onWrite_cases (s : State) (k : Bool → State → State) :
    onWrite s k = .next s ∨ ∃ ok rest, s.inputs = .answer (.wrote ok) :: rest ∧
      onWrite s k = .next (k ok (s.take (.wrote ok) rest)) := by
  unfold onWrite
  split
  · rename_i ok rest h
    exact .inr ⟨ok, rest, h, rfl⟩
  · exact .inl rfl

theorem onRead2_answer {s : State} {k : State → State} {r0 r1 : Byte} {rest : List Input}
    (h : s.inputs = .answer (.data [r0, r1]) :: rest) :
    onRead2 s k = .next (k { s.take (.data [r0, r1]) rest with raw := assemble r0 r1 }) := by
  simp only [onRead2, h]

theorem onRead2_cases (s : State) (k : State → State) :
    onRead2 s k = .next s ∨ ∃ r0 r1 rest, s.inputs = .answer (.data [r0, r1]) :: rest ∧
      onRead2 s k = .next (k { s.take (.data [r0, r1]) rest with raw := assemble r0 r1 }) := by
  unfold onRead2
  split
  · rename_i r0 r1 rest h
    exact .inr ⟨r0, r1, rest, h, rfl⟩
  · exact .inl rfl

theorem onRead1_answer {s : State} {k : Byte → State → State} {r0 : Byte} {rest : List Input}
    (h : s.inputs = .answer (.data [r0]) :: rest) :
    onRead1 s k = .next (k r0 { s.take (.data [r0]) rest with raw := r0.setWidth 16 }) := by
  simp only [onRead1, h]

theorem onRead1_cases (s : State) (k : Byte → State → State) :
    onRead1 s k = .next s ∨ ∃ r0 rest, s.inputs = .answer (.data [r0]) :: rest ∧
      onRead1 s k = .next (k r0 { s.take (.data [r0]) rest with raw := r0.setWidth 16 }) := by
  unfold onRead1
  split
  · rename_i r0 rest h
    exact .inr ⟨r0, rest, h, rfl⟩
  · exact .inl rfl

theorem onDelay_answer {s : State} {k : State → State} {rest : List Input}
    (h : s.inputs = .answer .delayOver :: rest) : onDelay s k = .next (k (s.take .delayOver rest)) := by
  simp only [onDelay, h]

theorem onDelay_cases (s : State) (k : State → State) :
    onDelay s k = .next s ∨ ∃ rest, s.inputs = .answer .delayOver :: rest ∧
      onDelay s k = .next (k (s.take .delayOver rest)) := by
  unfold onDelay
  split
  · rename_i rest h
    exact .inr ⟨rest, h, rfl⟩
  · exact .inl rfl

/-! `direct_read` as a whole command (R110). -/

theorem directRead_accept {op : Byte} {fin : State → State} {s : State} (h : s.stepNo = 0) :
    directRead op fin s = .next (s.start (frameDC op)) := by
  simp [directRead, h]

theorem directRead_written {op : Byte} {fin : State → State} {s : State} (h : s.stepNo = 1) :
    directRead op fin s = onWrite s fun ok t => (t.noteNack 1 ok).issue 2 (busRead 2) := by
  simp [directRead, h]

theorem directRead_received {op : Byte} {fin : State → State} {s : State} (h : s.stepNo = 2) :
    directRead op fin s = onRead2 s fun t => (fin t).finish := by
  simp [directRead, h]

/-- Everything `directRead` can do. -/
theorem directRead_cases (op : Byte) (fin : State → State) (s : State) :
    (s.stepNo = 0 ∧ directRead op fin s = .next (s.start (frameDC op))) ∨
    (s.stepNo = 1 ∧ directRead op fin s = onWrite s fun ok t => (t.noteNack 1 ok).issue 2 (busRead 2)) ∨
    (s.stepNo = 2 ∧ directRead op fin s = onRead2 s fun t => (fin t).finish) ∨
    (2 < s.stepNo.toNat ∧ directRead op fin s = .fault .noSuchStep) := by
  unfold directRead
  split
  case h_1 h => exact .inl ⟨BitVec.eq_of_toNat_eq h, rfl⟩
  case h_2 h => exact .inr (.inl ⟨BitVec.eq_of_toNat_eq h, rfl⟩)
  case h_3 h => exact .inr (.inr (.inl ⟨BitVec.eq_of_toNat_eq h, rfl⟩))
  case h_4 h0 h1 h2 =>
    refine .inr (.inr (.inr ⟨?_, rfl⟩))
    have : s.stepNo.toNat ≠ 0 := h0
    have : s.stepNo.toNat ≠ 1 := h1
    have : s.stepNo.toNat ≠ 2 := h2
    omega

/-! A single bus write as a whole command (R112, R171). -/

theorem singleWrite_accept {r : Request} {s : State} (h : s.stepNo = 0) : singleWrite r s = .next (s.start r) := by
  simp [singleWrite, h]

theorem singleWrite_written {r : Request} {s : State} (h : s.stepNo = 1) :
    singleWrite r s = onWrite s fun ok t => (t.noteNack 1 ok).finish := by
  simp [singleWrite, h]

/-- Everything `singleWrite` can do. -/
theorem singleWrite_cases (r : Request) (s : State) :
    (s.stepNo = 0 ∧ singleWrite r s = .next (s.start r)) ∨
    (s.stepNo = 1 ∧ singleWrite r s = onWrite s fun ok t => (t.noteNack 1 ok).finish) ∨
    (1 < s.stepNo.toNat ∧ singleWrite r s = .fault .noSuchStep) := by
  unfold singleWrite
  split
  case h_1 h => exact .inl ⟨BitVec.eq_of_toNat_eq h, rfl⟩
  case h_2 h => exact .inr (.inl ⟨BitVec.eq_of_toNat_eq h, rfl⟩)
  case h_3 h0 h1 =>
    refine .inr (.inr ⟨?_, rfl⟩)
    have : s.stepNo.toNat ≠ 0 := h0
    have : s.stepNo.toNat ≠ 1 := h1
    omega

/-- The rows of `dm_write_seq` (R132): there are six. -/
theorem dmWriteSeq_no_row (addr : Half) (val : Byte) (n : Nat) (fin : State → State) (s : State) {k : Nat} (h : 6 ≤ k) :
    dmWriteSeq addr val n k fin s = .fault .noSuchStep := by
  obtain ⟨j, rfl⟩ : ∃ j, k = j + 6 := ⟨k - 6, by omega⟩
  rfl

/-! Several transitions of one command in a row. -/

/-- The first of `k + 1` transitions split off. -/
theorem execTimes_succ_left (i : Instr) (k : Nat) (s : State) :
    execTimes i (k + 1) s =
      match exec i s with
      | .next t => execTimes i k t
      | .fault r => .fault r
      | .refused r => .refused r := by
  induction k generalizing s with
  | zero => simp only [execTimes]; cases exec i s <;> rfl
  | succ k ih =>
    rw [execTimes, ih]
    cases exec i s <;> simp [execTimes]

theorem completes_zero {i : Instr} {s t : State} (hb : s.busy = true) (h : exec i s = .next t) : Completes i 0 s t :=
  ⟨s, rfl, hb, h⟩

theorem completes_succ {i : Instr} {k : Nat} {s u t : State} (h : exec i s = .next u) (hc : Completes i k u t) :
    Completes i (k + 1) s t := by
  obtain ⟨v, hv, hb, he⟩ := hc
  exact ⟨v, by rw [execTimes_succ_left, h]; exact hv, hb, he⟩

/-! The ports. -/

/-- A Reset is next exactly when it is the first input. -/
theorem resetNext_iff {s : State} : s.resetNext = true ↔ ∃ rest, s.inputs = .reset :: rest := by
  unfold State.resetNext
  cases s.inputs with
  | nil => simp
  | cons i rest => cases i <;> simp

/-- Everything `fetch` can do (R25, R187 (c), R201). -/
theorem fetch_cases (s : State) :
    s.fetch = none ∨ ∃ w rest, s.busy = false ∧ s.resetNext = false ∧ s.port = w :: rest ∧
      (wordUsesBus w && s.transportBlocked) = false ∧ s.fetch = some (w, s.latch w rest) := by
  unfold State.fetch
  by_cases hb : (s.busy || s.resetNext) = true
  · simp [hb]
  · simp only [hb, Bool.false_eq_true, if_false]
    obtain ⟨hbusy, hreset⟩ : s.busy = false ∧ s.resetNext = false := by simpa using hb
    split
    · exact .inl rfl
    · rename_i w rest hp
      by_cases hw : (wordUsesBus w && s.transportBlocked) = true
      · simp [hw]
      · exact .inr ⟨w, rest, hbusy, hreset, hp, by simpa using hw, by simp [hw]⟩

/-- CCA takes no word while a command runs (R25). -/
theorem fetch_busy {s : State} (h : s.busy = true) : s.fetch = none := by simp [State.fetch, h]

/-- CCA takes no word when a Reset is next (R187 (c)). -/
theorem fetch_resetNext {s : State} (h : s.resetNext = true) : s.fetch = none := by simp [State.fetch, h]

/-- The word an idle CCA takes when no Reset is next and nothing holds it back (R25, R201). -/
theorem fetch_accepts {s : State} {w : CmdWord} {rest : List CmdWord} (hb : s.busy = false) (hr : s.resetNext = false)
    (hp : s.port = w :: rest) (hf : (wordUsesBus w && s.transportBlocked) = false) :
    s.fetch = some (w, s.latch w rest) := by
  simp [State.fetch, hb, hr, hp, hf]

/-! Abandoned requests (R201). -/

/-- What an answer takes off the abandoned requests is one that it fits; every other one is left. -/
theorem dropLate_cases {a : Answer} {late left : List Request} (h : dropLate a late = some left) :
    ∃ before r after, late = before ++ r :: after ∧ left = before ++ after ∧ r.answeredBy a = true := by
  induction late generalizing left with
  | nil => cases h
  | cons r rs ih =>
    unfold dropLate at h
    split at h
    · rename_i hr
      exact ⟨[], r, rs, rfl, by simpa using h.symm, hr⟩
    · obtain ⟨left', hl, rfl⟩ := Option.map_eq_some_iff.1 h
      obtain ⟨before, r', after, rfl, rfl, hr'⟩ := ih hl
      exact ⟨r :: before, r', after, rfl, rfl, hr'⟩

/-- Everything `step` can do: accept a word, pass the awaited answer on, or take what arrives. -/
theorem step_cases (s : State) :
    (∃ w t, s.fetch = some (w, t) ∧
      ((∃ i, decode w = some i ∧ step s = exec i t) ∨ (decode w = none ∧ step s = .next t.raiseIllegal))) ∨
    (s.fetch = none ∧ s.arrival = .awaited ∧
      ((∃ i, decode s.cmd = some i ∧ step s = exec i s) ∨ (decode s.cmd = none ∧ step s = .fault .noCommand))) ∨
    (∃ t, s.fetch = none ∧ s.arrival = .other t ∧ step s = .next t) := by
  unfold step
  split
  · rename_i w t hf
    refine .inl ⟨w, t, hf, ?_⟩
    split
    · rename_i i hd
      exact .inl ⟨i, hd, rfl⟩
    · rename_i hd
      exact .inr ⟨hd, rfl⟩
  · rename_i hf
    split
    · rename_i t ha
      exact .inr (.inr ⟨t, hf, ha, rfl⟩)
    · rename_i ha
      refine .inr (.inl ⟨hf, ha, ?_⟩)
      split
      · rename_i i hd
        exact .inl ⟨i, hd, rfl⟩
      · rename_i hd
        exact .inr ⟨hd, rfl⟩

end Sys2Proof.Machine
end

