-- ==== Sys2Proof/Laws/PerInstr.lean ====
section
/-! SUPPORT. What holds of every instruction as syntax, one lemma per constructor. Family Row: the word of a command has
its opcode in bits 39 to 32 and its operand in bits 31 to 0 (30_encoding.md R81), and the operand decodes by its format
to the command itself, before the condition of R84 (c). -/

namespace Sys2Proof.Laws.Row

/-- The fields of the word of a command (R81, R83). -/
def Statement (i : Instr) : Prop := opcodeOf (encode i) = i.opcode ∧ operandOf (encode i) = i.operand

/-- The two fields of a word are its two halves. -/
theorem of_append (op : Byte) (x : Word) : opcodeOf (op ++ x) = op ∧ operandOf (op ++ x) = x := by
  constructor
  · ext i h
    have happ := BitVec.getLsbD_append (x := op) (y := x) (i := 32 + i)
    simpa [opcodeOf, BitVec.getLsbD_eq_getElem h] using happ
  · ext i h
    have happ := BitVec.getLsbD_append (x := op) (y := x) (i := i)
    simpa [operandOf, h, BitVec.getLsbD_eq_getElem h] using happ

theorem csClr : Statement .csClr := of_append _ _
theorem csPush (b : Byte) : Statement (.csPush b) := of_append _ _
theorem csGet : Statement .csGet := of_append _ _
theorem direct (b : Byte) : Statement (.direct b) := of_append _ _
theorem subcmd (h : Half) : Statement (.subcmd h) := of_append _ _
theorem subrsp : Statement .subrsp := of_append _ _
theorem dmread (addr : Half) : Statement (.dmread addr) := of_append _ _
theorem dmwrite (addr : Half) (val : Byte) : Statement (.dmwrite addr val) := of_append _ _
theorem cuEnter : Statement .cuEnter := of_append _ _
theorem cuExit : Statement .cuExit := of_append _ _
theorem cellv (idx : BitVec 5) : Statement (.cellv idx) := of_append _ _
theorem allcellv : Statement .allcellv := of_append _ _
theorem current : Statement .current := of_append _ _
theorem itemp : Statement .itemp := of_append _ _
theorem therm (ch : Thermistor) : Statement (.therm ch) := of_append _ _
theorem prot : Statement .prot := of_append _ _
theorem tempstat : Statement .tempstat := of_append _ _
theorem ischg : Statement .ischg := of_append _ _
theorem isdsg : Statement .isdsg := of_append _ _
theorem decProt (b : Byte) : Statement (.decProt b) := of_append _ _
theorem decTemp (b : Byte) : Statement (.decTemp b) := of_append _ _
theorem decFet (b : Byte) : Statement (.decFet b) := of_append _ _
theorem setfet (target : FetTarget) (state : FetState) : Statement (.setfet target state) := of_append _ _
theorem setcov (mv ms : Half) : Statement (.setcov mv ms) := of_append _ _

end Sys2Proof.Laws.Row
end

