-- ==== Sys2Proof/Certificates/Slice0/Obligations.lean ====
section
/-! DEFINITION. The statements about the machine. Numbers in statements (opcodes, selectors, addresses, delays) are the
spec's, written out. A statement about a command runs it from acceptance, at an idle state whose next inputs are the
answers it will get, to its `done`; the state it ends in is given whole, so what is not named there is unchanged. -/

open Sys2Proof Sys2Proof.Machine

namespace Sys2Proof.Claims

/-- A command that is one Direct Command read of `op` (R110) ends, whatever the transport answers, with RAW the two
bytes, the first one low (R30), and with `effect` on the other registers. -/
def ReadCompletes (i : Instr) (op : Byte) (effect : State → Half → State) : Prop :=
  ∀ (s : State) (ok : Bool) (r0 r1 : Byte) (rest : List Input),
    Idle s → s.inputs = [.answer (.wrote ok), .answer (.data [r0, r1])] ++ rest →
    Completes i 2 s { effect (s.ended [(1, ok)] rest (bw [op] ok ++ br 2 [r0, r1])) (r1 ++ r0) with raw := r1 ++ r0 }

/-- A command that is one bus write (R112, R171) ends, whatever the transport answers, with nothing but the outcome. -/
def WriteCompletes (i : Instr) (bytes : List Byte) : Prop :=
  ∀ (s : State) (ok : Bool) (rest : List Input),
    Idle s → s.inputs = [.answer (.wrote ok)] ++ rest →
    Completes i 1 s (s.ended [(1, ok)] rest (bw bytes ok))

/-- What a command without interface events always changes (R25): the outcome OK and `Done(OK, 0)`. -/
def quiet (s : State) : State := { s with err := .ok, fstep := 0, trace := s.trace ++ [.done .ok 0] }

/-- Every request among new events is one that `allowed` names. -/
def OnlyRequests (s t : State) (allowed : Request → Prop) : Prop :=
  ∃ es, t.trace = s.trace ++ es ∧ ∀ r, .request r ∈ es → allowed r

/-- `Reset` is the next thing from outside. -/
def ResetNext (s : State) : Prop := ∃ rest, s.inputs = .reset :: rest

/-- The bits of each host register that R22 and R23 say are used, written out. -/
def usedMask (n : RegNo) : Word :=
  if n.toNat = 0 then 0x3F1F else if n.toNat = 1 then 0xFFFFFFFF else if n.toNat = 2 then 0xFFFF
  else if n.toNat = 3 then 0x1FFFF else if n.toNat = 4 then 0x3F else if n.toNat = 5 then 0x7F
  else if n.toNat = 6 then 0x3 else if n.toNat ≤ 15 then 0 else 0xFFFF

/-- The next thing from outside answers the outstanding request. -/
def AnswerNext (s : State) : Prop :=
  ∃ a rest r, s.inputs = .answer a :: rest ∧ s.pending = some r ∧ r.answeredBy a = true

end Sys2Proof.Claims

open Sys2Proof.Claims

/-! ## Encoding -/

/-- Derived from R81 to R84: the decoder reads back every well-formed command from its word, every operand at every
value. -/
def Obligations.DecodeOfEncodeIsTheCommand : Prop := ∀ i : Instr, i.wf = true → decode (encode i) = some i

/-- Derived from R81 to R84: a legal word is the word of the command it decodes to, so no bit of it is dropped. -/
def Obligations.EncodeOfDecodeIsTheWord : Prop := ∀ (w : CmdWord) (i : Instr), decode w = some i → encode i = w

/-- R86: a word is legal if and only if it matches exactly one row of the opcode table and satisfies that row's
constraint; and no two rows share a word. -/
def Obligations.LegalIffExactlyOneOpcodeRow : Prop :=
  (∀ w : CmdWord, (decode w).isSome = true ↔ (opcodeTable.filter (·.holds w)).length = 1) ∧
  (∀ w : CmdWord, (opcodeTable.filter fun r => w &&& r.mask == r.matchBits).length ≤ 1)

/-- R83, R89, R90: words the spec writes out decode to the commands they stand for. Sanity. -/
def Obligations.WordsOfTheSpecDecode : Prop :=
  decode 0x0100000000 = some .csClr ∧ decode 0x020000005A = some (.csPush 0x5A) ∧
  decode 0x1000000014 = some (.direct 0x14) ∧ decode 0x1100000012 = some .devreset ∧
  decode 0x1400569278 = some (.dmwrite 0x9278 0x56) ∧ decode 0x2000000000 = some .cuEnter ∧
  decode 0x3000000010 = some (.cellv 16) ∧ decode 0x3400000003 = some (.therm .hdq) ∧
  decode 0x440000000C = some (.decProt 0x0C) ∧ decode 0x5000000006 = some (.setfet .all .on) ∧
  decode 0x5103E81194 = some (.setcov 4500 1000)

/-- R85 (a) to (g): the illegal encodings. -/
def Obligations.ListedEncodingsAreIllegal : Prop :=
  (∀ (op : Byte) (x : Word),
    op.toNat ∉ [0x01, 0x02, 0x03, 0x10, 0x11, 0x12, 0x13, 0x14, 0x20, 0x21, 0x30, 0x31, 0x32, 0x33, 0x34, 0x40, 0x41,
      0x42, 0x43, 0x44, 0x45, 0x46, 0x50, 0x51] → decode (op ++ x) = none) ∧
  (∀ (op : Byte) (x : Word),
    op.toNat ∈ [0x01, 0x03, 0x12, 0x20, 0x21, 0x31, 0x32, 0x33, 0x40, 0x41, 0x42, 0x43] → x ≠ 0 →
      decode (op ++ x) = none) ∧
  (∀ (op : Byte) (x : Word), op.toNat ∈ [0x02, 0x10, 0x44, 0x45, 0x46] → 2 ^ 8 ≤ x.toNat → decode (op ++ x) = none) ∧
  (∀ (op : Byte) (x : Word), op.toNat ∈ [0x11, 0x13] → 2 ^ 16 ≤ x.toNat → decode (op ++ x) = none) ∧
  (∀ x : Word, 2 ^ 24 ≤ x.toNat → decode ((0x14 : Byte) ++ x) = none) ∧
  (∀ x : Word, 0x80 ≤ x.toNat → decode ((0x10 : Byte) ++ x) = none) ∧
  decode 0x1100000090 = none ∧ decode 0x1100000092 = none ∧
  (∀ x : Word, x.toNat = 0 ∨ 17 ≤ x.toNat → decode ((0x30 : Byte) ++ x) = none) ∧
  (∀ x : Word, 6 ≤ x.toNat → decode ((0x34 : Byte) ++ x) = none) ∧
  (∀ x : Word, x.toNat % 4 = 3 ∨ 8 ≤ x.toNat → decode ((0x50 : Byte) ++ x) = none)

/-! ## One step -/

/-- R25, R26: an idle CCA accepts a legal word: `Accept(w)`, `cmd <- w`, and the step is the command's first transition.
Not when a Reset is next (R187 (c)). That the word waits if it needs the transport while an abandoned request is unanswered
is the model's choice, log entry 6; that it is accepted before whatever else comes next is the model's choice, log entry
16. -/
def Obligations.AcceptedWordRunsItsCommand : Prop :=
  ∀ (s : State) (w : CmdWord) (ws : List CmdWord) (i : Instr),
    s.busy = false → ¬ ResetNext s → s.port = w :: ws → decode w = some i → usesBus i = false ∨ s.late = [] →
    step s = exec i { s with cmd := w, port := ws, trace := s.trace ++ [.accept w] }

/-- R25, R24: acceptance of a command with interface events, at an idle CCA: `busy <- 1`, `err <- OK`, `fstep <- 0`,
`step <- 1`, the event of its step 1 issued; DMWRITE and SETCOV have filled CSUM before it (R132, R174); nothing else. -/
def Obligations.AcceptanceIssuesTheFirstEvent : Prop :=
  ∀ (i : Instr) (s : State), Idle s → usesBus i = true →
    ∃ r, eventAt i 1 = some r ∧ exec i s = .next { s with
      busy := true, stepNo := 1, err := .ok, fstep := 0, pending := some r, trace := s.trace ++ [.request r],
      acc := (bracketAt i 1).elim s.acc fun b => dmAcc b.1 b.2.1, seeded := (bracketAt i 1).isSome || s.seeded }

/-- R24, R26: while a command runs, the step at which the awaited answer arrives is the next transition of the command
that `cmd` holds. -/
def Obligations.AnswerRunsTheLatchedCommand : Prop :=
  ∀ (s : State) (a : Answer) (rest : List Input) (r : Request) (i : Instr),
    s.busy = true → s.inputs = .answer a :: rest → s.pending = some r → r.answeredBy a = true →
    dropLate a s.late = none → decode s.cmd = some i → step s = exec i s

/-- R84, R182: an illegal word is accepted, `err <- ILLEGAL`, `fstep <- 0`, `Done(ILLEGAL, 0)`; no bus event, no delay,
no other register but `cmd`; `busy` stays 0. Not when a Reset is next (R187 (c)). That the word is taken before whatever
else comes next is the model's choice, log entry 16. -/
def Obligations.IllegalWordIsRefusedWhole : Prop :=
  ∀ (s : State) (w : CmdWord) (ws : List CmdWord),
    s.busy = false → ¬ ResetNext s → s.port = w :: ws → decode w = none →
    step s = .next { s with cmd := w, port := ws, err := .illegal, fstep := 0,
                            trace := s.trace ++ [.accept w, .done .illegal 0] }

/-- R25: while `busy = 1` no word is taken from the command port; a word that is presented waits there. That waiting words
keep their order and are not withdrawn is the model's choice, log entry 11, and that they stay at a Reset log entry 19. -/
def Obligations.BusyTakesNoWord : Prop :=
  ∀ s t : State, s.busy = true → step s = .next t →
    t.port = s.port ∨ ∃ w rest, s.inputs = .present w :: rest ∧ t.port = s.port ++ [w]

/-- From R190 and R24: a waiting CCA stays as it is while nothing arrives, and only the awaited answer or `Reset` changes
any register. That the hang is a step to the same state is read from R190 (log entry 9, DEDUCED), that an answer which fits
nothing is discarded from R187 and R192 (log entry 7, DEDUCED). -/
def Obligations.OnlyAnswerOrResetEndsAWait : Prop :=
  (∀ s : State, s.busy = true → s.inputs = [] → step s = .next s) ∧
  (∀ s t : State, s.busy = true → step s = .next t → ¬ SameRegisters s t → ResetNext s ∨ AnswerNext s)

/-- R37, R200, R201: `Reset`, idle or busy: every register at its reset value, no request and no delay issued, the
outstanding request abandoned; it wins over everything, a word that waits included (R187 (c)). That what is outside CCA
stays as it is, is the model's choice, log entry 19. -/
def Obligations.ResetClearsEveryRegister : Prop :=
  ∀ (s : State) (rest : List Input), s.inputs = .reset :: rest →
    step s = .next {
      busy := false, stepNo := 0, cmd := 0, mack := false, err := .ok, fstep := 0, acc := 0, seeded := false,
      cuMode := .exited, result := 0, raw := 0, protf := 0, tempf := 0, fetf := 0, cells := Vector.replicate 16 0,
      params := s.params, pending := none, late := s.late ++ s.pending.toList, port := s.port, inputs := rest,
      trace := s.trace ++ [.reset], draws := s.draws }

/-- R37: after reset STATUS reads `0x00000000`, CSUM reads `0x0000FF00`, every other register reads zero. -/
def Obligations.RegistersReadAfterReset : Prop :=
  State.reset.register 0 = 0x00000000 ∧ State.reset.register 3 = 0x0000FF00 ∧
  (∀ n : RegNo, n ≠ 3 → State.reset.register n = 0) ∧
  State.reset.busy = false ∧ State.reset.stepNo = 0 ∧ State.reset.cmd = 0 ∧ State.reset.mack = false

/-- R201, R187 (c): an answer to an abandoned request is discarded and changes no register. Which request an answer belongs
to (`dropLate`: the oldest abandoned one that it fits, before the outstanding one) is the model's choice, log entry 6. With
a word that CCA can take, the word goes first (`fetch`, log entry 16). -/
def Obligations.LateAnswerIsDiscarded : Prop :=
  ∀ (s : State) (a : Answer) (rest : List Input) (late : List Request),
    s.fetch = none → s.inputs = .answer a :: rest → dropLate a s.late = some late →
    step s = .next { s with inputs := rest, late := late, trace := s.trace ++ [.discarded a] }

/-- R201, R205: while a request abandoned by a Reset, at the transport or at the timer, is unanswered, no step makes a
request. That acceptance is what waits is the model's choice, log entry 6. -/
def Obligations.NoRequestWhileTransportBlocked : Prop :=
  ∀ s t : State, Inv s → s.late ≠ [] → step s = .next t → OnlyRequests s t fun _ => False

/-- R22, R38, R39 (f): a host read has no effect on any register; idle, it returns the register; busy, STATUS shows the
true `busy`; unused bits, those of R22 and R23 written out, are zero, busy or idle (log entry 8). -/
def Obligations.HostReadHasNoSideEffect : Prop :=
  ∀ (s : State) (n : RegNo) (rest : List Input), s.fetch = none → s.inputs = .hostRead n :: rest →
    ∃ (t : State) (v : Word), step s = .next t ∧ SameRegisters s t ∧ t.pending = s.pending ∧ t.port = s.port ∧
      t.late = s.late ∧ t.params = s.params ∧ t.inputs = rest ∧ t.trace = s.trace ++ [.hostRead n v] ∧
      (s.busy = false → v = s.register n) ∧ (n = 0 → v.getLsbD 0 = s.busy) ∧ v &&& ~~~ usedMask n = 0

/-- R22, R23, R180, R39 (e): the layout of the host register file, STATUS and CSUM bit by bit, the codes of `err`. -/
def Obligations.RegisterFileLayout : Prop :=
  ∀ s : State,
    ((s.register 0).getLsbD 0 = s.busy ∧
      (s.err = .ok → (s.register 0).extractLsb' 1 2 = 0) ∧ (s.err = .busNack → (s.register 0).extractLsb' 1 2 = 1) ∧
      (s.err = .illegal → (s.register 0).extractLsb' 1 2 = 2) ∧ (s.register 0).extractLsb' 1 2 ≠ 3 ∧
      ((s.register 0).getLsbD 3 = true ↔ s.cuMode = .entered) ∧ (s.register 0).getLsbD 4 = s.seeded ∧
      (s.register 0).extractLsb' 5 3 = 0 ∧ (s.register 0).extractLsb' 8 6 = s.fstep ∧
      (s.register 0).extractLsb' 14 18 = 0) ∧
    ((s.register 3).extractLsb' 0 8 = s.acc ∧ (s.register 3).extractLsb' 8 8 = ~~~ s.acc ∧
      (s.register 3).getLsbD 16 = s.seeded ∧ (s.register 3).extractLsb' 17 15 = 0) ∧
    (s.register 1 = s.result ∧ (s.register 2).toNat = s.raw.toNat ∧ (s.register 4).toNat = s.protf.toNat ∧
      (s.register 5).toNat = s.tempf.toNat ∧ (s.register 6).toNat = s.fetf.toNat) ∧
    (∀ n : RegNo, 7 ≤ n.toNat → n.toNat ≤ 15 → s.register n = 0) ∧
    (∀ i : Fin 16, (s.register (BitVec.ofNat 5 (16 + i))).toNat = (s.cells[i]).toNat)

/-! ## CSUM -/

/-- R101: CS_CLR. -/
def Obligations.CsClrClearsTheChecksum : Prop :=
  ∀ s : State, Idle s → exec .csClr s = .next { quiet s with acc := 0x00, seeded := false }

/-- R102: CS_PUSH seeds, then folds with `~acc + b`, the carry dropped. -/
def Obligations.CsPushSeedsThenFolds : Prop :=
  ∀ (s : State) (b : Byte), Idle s →
    (s.seeded = false → exec (.csPush b) s = .next { quiet s with acc := b, seeded := true }) ∧
    (s.seeded = true →
      exec (.csPush b) s = .next { quiet s with acc := BitVec.ofNat 8 (255 - s.acc.toNat + b.toNat), seeded := true })

/-- R104: CS_GET returns `~acc` in the low byte when seeded, and raises Illegal otherwise. -/
def Obligations.CsGetReturnsComplementOrIsIllegal : Prop :=
  ∀ s : State, Idle s →
    (s.seeded = true → exec .csGet s = .next { quiet s with result := BitVec.ofNat 32 (255 - s.acc.toNat) }) ∧
    (s.seeded = false →
      exec .csGet s = .next { s with err := .illegal, fstep := 0, trace := s.trace ++ [.done .illegal 0] })

/-- R103, R102, R90: a clear, the pushes of any non-empty byte sequence and a get leave in RESULT the complement of the
accumulator that the first byte seeds and every later byte folds into. -/
def Obligations.PushedBytesGiveTheChecksumByte : Prop :=
  ∀ (s : State) (b : Byte) (bs : List Byte), Idle s →
    let acc := bs.foldl (fun a x => BitVec.ofNat 8 (255 - a.toNat + x.toNat)) b
    execEach (Instr.checksum b bs) s = .next
      { s with err := .ok, fstep := 0, acc := acc, seeded := true, result := (~~~ acc).setWidth 32,
               trace := s.trace ++ List.replicate (bs.length + 3) (.done .ok 0) }

/-- R105: the checksum is an alternating sum: `~(s mod 256)` for an odd number of bytes, `s mod 256` for an even one. -/
def Obligations.ChecksumIsTheAlternatingSum : Prop :=
  ∀ (b : Byte) (bs : List Byte),
    ((b :: bs).length % 2 = 1 → csumAcc b bs = BitVec.ofInt 8 (alternatingSum (b :: bs)) ∧
      checksumByte b bs = ~~~ BitVec.ofInt 8 (alternatingSum (b :: bs))) ∧
    ((b :: bs).length % 2 = 0 → csumAcc b bs = BitVec.ofInt 8 (-1 - alternatingSum (b :: bs)) ∧
      checksumByte b bs = BitVec.ofInt 8 (alternatingSum (b :: bs)))

/-- R106: the checksum of two bytes is their difference, so their order matters exactly when the difference is neither 0
nor 128 modulo 256; in particular it does not for `0x80, 0x00`. -/
def Obligations.ChecksumOrderMattersButForHalfRange : Prop :=
  (∀ a b : Byte, checksumByte a [b] = a - b ∧ checksumByte b [a] = b - a ∧
    (checksumByte a [b] = checksumByte b [a] ↔ a = b ∨ (a - b).toNat = 128)) ∧
  checksumByte 0x80 [0x00] = 0x80 ∧ checksumByte 0x00 [0x80] = 0x80

/-- R133: `csum_load` leaves CSUM seeded with `(lo8(addr) - hi8(addr) + val - 46) mod 256`, the accumulator of the five
bytes that the bus will carry. -/
def Obligations.CsumLoadClosedForm : Prop :=
  ∀ (s : State) (addr : Half) (val : Byte),
    s.csumLoad addr val = { s with acc := dmAcc addr val, seeded := true } ∧
    dmAcc addr val = csumAcc 0x10 [0x3E, addr.extractLsb' 0 8, addr.extractLsb' 8 8, val]

/-! ## Direct Commands and subcommands -/

/-- R110, R111: DIRECT. -/
def Obligations.DirectCompletes : Prop :=
  ∀ b : Byte, b.toNat ≤ 0x7F → ReadCompletes (.direct b) b fun t w => { t with result := w.setWidth 32 }

/-- R112: SUBCMD. -/
def Obligations.SubcmdCompletes : Prop :=
  ∀ h : Half, h ≠ 0x0090 → h ≠ 0x0092 → WriteCompletes (.subcmd h) [0x3E, h.extractLsb' 0 8, h.extractLsb' 8 8]

/-- R113: SUBRSP. -/
def Obligations.SubrspCompletes : Prop := ReadCompletes .subrsp 0x40 fun t w => { t with result := w.setWidth 32 }

/-- R114: a command built on `direct_read` makes no request but one-byte writes and two-byte reads. -/
def Obligations.DirectReadsMakeNoOtherTraffic : Prop :=
  ∀ (i : Instr) (s t : State), (directOpcode i).isSome = true ∨ i = .allcellv → exec i s = .next t →
    OnlyRequests s t fun r => (∃ op, r = .write 0x10 [op]) ∨ r = .read 0x11 2

/-! ## CUSM -/

/-- R121, R123, R125: CU_ENTER, whatever the answer: the delay is waited, the shadow changes only if acknowledged. -/
def Obligations.CuEnterCompletes : Prop :=
  ∀ (s : State) (ok : Bool) (rest : List Input),
    Idle s → s.inputs = [.answer (.wrote ok), .answer .delayOver] ++ rest →
    Completes .cuEnter 2 s
      { s.ended [(1, ok)] rest (bw [0x3E, 0x90, 0x00] ok ++ dly 2000) with
        mack := ok, cuMode := if ok then .entered else s.cuMode }

/-- R122, R123, R126: CU_EXIT. -/
def Obligations.CuExitCompletes : Prop :=
  ∀ (s : State) (ok : Bool) (rest : List Input),
    Idle s → s.inputs = [.answer (.wrote ok), .answer .delayOver] ++ rest →
    Completes .cuExit 2 s
      { s.ended [(1, ok)] rest (bw [0x3E, 0x92, 0x00] ok ++ dly 1000) with
        mack := ok, cuMode := if ok then .exited else s.cuMode }

/-- R28: `cu_mode` changes only at the end of a settle delay after an acknowledged write, to ENTERED after 2000, to
EXITED after 1000, or at `Reset`. -/
def Obligations.ShadowChangesOnlyAtSettle : Prop :=
  ∀ s t : State, Inv s → step s = .next t → t.cuMode ≠ s.cuMode →
    (ResetNext s ∧ t.cuMode = .exited) ∨
    (s.mack = true ∧ (∃ rest, s.inputs = .answer .delayOver :: rest) ∧
      ((s.pending = some (.delay 2000) ∧ t.cuMode = .entered) ∨ (s.pending = some (.delay 1000) ∧ t.cuMode = .exited)))

/-- R124: no command reads `cu_mode`: with another value of it every command makes the same transition, `cu_mode` apart. -/
def Obligations.NoCommandReadsTheShadow : Prop :=
  ∀ (i : Instr) (s : State) (m : CuMode),
    mapNext ({ · with cuMode := .exited }) (exec i { s with cuMode := m }) =
      mapNext ({ · with cuMode := .exited }) (exec i s)

/-- R127 (a), R66: after the ENTER write the next request is the 2000 microsecond delay, after the EXIT write the 1000
microsecond delay. The two DMREADs whose address frame has the same bytes (91 N9, log entry 17) are no ENTER or EXIT. -/
def Obligations.SettleDelayFollowsModeWrite : Prop :=
  (∀ s t : State, Inv s → step s = .next t → s.pending = some (.write 0x10 [0x3E, 0x90, 0x00]) →
    decode s.cmd ≠ some (.dmread 0x0090) →
    t.pending = s.pending ∨ t.pending = some (.delay 2000) ∨ (ResetNext s ∧ t.pending = none)) ∧
  (∀ s t : State, Inv s → step s = .next t → s.pending = some (.write 0x10 [0x3E, 0x92, 0x00]) →
    decode s.cmd ≠ some (.dmread 0x0092) →
    t.pending = s.pending ∨ t.pending = some (.delay 1000) ∨ (ResetNext s ∧ t.pending = none))

/-- R127 (b), R112: no command other than CU_ENTER, CU_EXIT, DMWRITE and SETCOV sends the ENTER or the EXIT bytes, the
two DMREADs with the same address bytes apart (log entry 17). -/
def Obligations.OnlyFourCommandsSendModeSubcommands : Prop :=
  ∀ (i : Instr) (s t : State), i.wf = true → exec i s = .next t → writesMode i = false →
    OnlyRequests s t fun r =>
      (r ≠ .write 0x10 [0x3E, 0x90, 0x00] ∨ i = .dmread 0x0090) ∧
      (r ≠ .write 0x10 [0x3E, 0x92, 0x00] ∨ i = .dmread 0x0092)

/-- R127 (c), R135: a payload frame of a Data-Memory write is outstanding only while the shadow says ENTERED. -/
def Obligations.PayloadOnlyWhileEntered : Prop :=
  ∀ s t : State, Inv s → step s = .next t →
    (∃ lo hi val, t.pending = some (.write 0x10 [0x3E, lo, hi, val])) ∨
      (∃ ck len, t.pending = some (.write 0x10 [0x60, ck, len])) →
    t.cuMode = .entered

/-! ## Data-Memory -/

/-- R131: DMREAD, all three steps whatever the writes answer. -/
def Obligations.DmreadCompletes : Prop :=
  ∀ (addr : Half) (s : State) (ok1 ok2 : Bool) (r0 : Byte) (rest : List Input),
    Idle s → s.inputs = [.answer (.wrote ok1), .answer (.wrote ok2), .answer (.data [r0])] ++ rest →
    Completes (.dmread addr) 3 s
      { s.ended [(1, ok1), (2, ok2)] rest
          (bw [0x3E, addr.extractLsb' 0 8, addr.extractLsb' 8 8] ok1 ++ bw [0x40] ok2 ++ br 1 [r0]) with
        raw := r0.setWidth 16, result := r0.setWidth 32 }

/-- R132, R133: DMWRITE from acceptance to `done` under every pattern of answers to ENTER, DMW, CKL and EXIT: the
traffic, the outcome, CSUM with this write's checksum, the shadow, and nothing else. -/
def Obligations.DmwriteCompletes : Prop :=
  ∀ (addr : Half) (val : Byte) (s : State) (enter dmw ckl exit : Bool) (rest : List Input),
    Idle s → s.inputs = bracketAnswers enter dmw ckl exit ++ rest →
    Completes (.dmwrite addr val) (bracketAnswers enter dmw ckl exit).length s
      { s.ended (bracketWrites 1 enter dmw ckl exit) rest
          (bracketTrace addr val (~~~ dmAcc addr val) enter dmw ckl exit) with
        acc := dmAcc addr val, seeded := true, mack := exit, cuMode := bracketMode s.cuMode enter exit }

/-- R134: every DMWRITE sends exactly one ENTER before and one EXIT after its payload writes, each with its delay right
after it; the first refusal of ENTER, DMW or CKL skips the payload writes not yet sent; `fstep` is the first refused
step. -/
def Obligations.DmwriteBracketsItsPayload : Prop :=
  ∀ (addr : Half) (val : Byte) (s : State) (enter dmw ckl exit : Bool) (rest : List Input),
    Idle s → s.inputs = bracketAnswers enter dmw ckl exit ++ rest →
    ∃ t es ck, Completes (.dmwrite addr val) (bracketAnswers enter dmw ckl exit).length s t ∧
      t.trace = s.trace ++ es ∧
      requestsOf es =
        [.write 0x10 [0x3E, 0x90, 0x00], .delay 2000] ++
        (if enter = false then []
          else if dmw = false then [.write 0x10 [0x3E, addr.extractLsb' 0 8, addr.extractLsb' 8 8, val]]
          else [.write 0x10 [0x3E, addr.extractLsb' 0 8, addr.extractLsb' 8 8, val], .write 0x10 [0x60, ck, 0x05]]) ++
        [.write 0x10 [0x3E, 0x92, 0x00], .delay 1000] ∧
      (t.err, t.fstep) =
        (if enter = false then (.busNack, 1) else if dmw = false then (.busNack, 3)
          else if ckl = false then (.busNack, 4) else if exit = false then (.busNack, 5) else (.ok, 0))

/-! ## Measurement -/

/-- R140, R141, R110, R30: CELLV of cells 1 to 16. -/
def Obligations.CellvCompletes : Prop :=
  ∀ idx : BitVec 5, 1 ≤ idx.toNat → idx.toNat ≤ 16 →
    ReadCompletes (.cellv idx) (BitVec.ofNat 8 (0x14 + (idx.toNat - 1) * 2)) fun t w =>
      { t with result := w.setWidth 32 }

/-- R142: ALLCELLV: sixteen Direct Commands in ascending order whatever the answers; CELL[i] is the i-th word read, RAW
the last one, `fstep` the odd step of the first refusal; RESULT unchanged. -/
def Obligations.AllcellvCompletes : Prop :=
  ∀ (s : State) (ok : Fin 16 → Bool) (r0 r1 : Fin 16 → Byte) (rest : List Input),
    Idle s →
    s.inputs = (List.finRange 16).flatMap (fun i => [.answer (.wrote (ok i)), .answer (.data [r0 i, r1 i])]) ++ rest →
    Completes .allcellv 32 s
      { s.ended ((List.finRange 16).map fun i => (2 * i.val + 1, ok i)) rest
          ((List.finRange 16).flatMap fun i => bw [BitVec.ofNat 8 (0x14 + i.val * 2)] (ok i) ++ br 2 [r0 i, r1 i]) with
        raw := r1 15 ++ r0 15, cells := Vector.ofFn fun i => r1 i ++ r0 i }

/-- R143, for either setting of the open parameter CURRENT_SIGN_EXTEND: CURRENT. -/
def Obligations.CurrentCompletes : Prop :=
  ReadCompletes .current 0x3A fun t w =>
    { t with result := if t.params.currentSignExtend then BitVec.ofInt 32 w.toInt else BitVec.ofNat 32 w.toNat }

/-- R144, R145: ITEMP. -/
def Obligations.ItempCompletes : Prop :=
  ReadCompletes .itemp 0x68 fun t w => { t with result := BitVec.ofInt 32 (10 * (w.toNat : Int) - 27315) }

/-- R144, R146: THERM of every channel. -/
def Obligations.ThermCompletes : Prop :=
  ∀ p ∈ [(Thermistor.ts1, (0x70 : Byte)), (.ts2, 0x72), (.ts3, 0x74), (.hdq, 0x76), (.dchg, 0x78), (.ddsg, 0x7A)],
    ReadCompletes (.therm p.1) p.2 fun t w => { t with result := BitVec.ofInt 32 (10 * (w.toNat : Int) - 27315) }

/-- R144: the conversion is exact: read as a signed number RESULT is `10 * raw - 27315`. -/
def Obligations.CentiCelsiusIsExact : Prop :=
  ∀ raw : Half, (centiCelsius raw).toInt = 10 * (raw.toNat : Int) - 27315

/-! ## RDEC -/

/-- R150, R151, R153, R155, for every setting of PROT_POS and TEMP_POS: each flag is one bit of the byte. -/
def Obligations.FlagsAreSingleBits : Prop :=
  (∀ (p : Config.ProtPos) (b : Byte),
    (decProt p b).getLsbD 0 = b.getLsbD p.scDchg ∧ (decProt p b).getLsbD 1 = b.getLsbD p.oc1Dchg ∧
    (decProt p b).getLsbD 2 = b.getLsbD p.oc2Dchg ∧ (decProt p b).getLsbD 3 = b.getLsbD p.ocChg ∧
    (decProt p b).getLsbD 4 = b.getLsbD 3 ∧ (decProt p b).getLsbD 5 = b.getLsbD 2) ∧
  (∀ (p : Config.TempPos) (b : Byte),
    (decTemp p b).getLsbD 0 = b.getLsbD p.otFet ∧ (decTemp p b).getLsbD 1 = b.getLsbD p.otInt ∧
    (decTemp p b).getLsbD 2 = b.getLsbD p.otDchg ∧ (decTemp p b).getLsbD 3 = b.getLsbD p.otChg ∧
    (decTemp p b).getLsbD 4 = b.getLsbD p.utInt ∧ (decTemp p b).getLsbD 5 = b.getLsbD p.utDchg ∧
    (decTemp p b).getLsbD 6 = b.getLsbD p.utChg) ∧
  (∀ b : Byte, (decFet b).getLsbD 0 = b.getLsbD 0 ∧ (decFet b).getLsbD 1 = b.getLsbD 2)

/-- R150: with legal parameters no bit of a byte feeds two flags: clearing one bit of the byte clears at most one flag
of PROTF and at most one of TEMPF. -/
def Obligations.NoBitFeedsTwoFlags : Prop :=
  ∀ (p : Config.Params) (b : Byte) (j : Fin 8) (m n : Nat), p.legal = true → m ≠ n →
    let c := b &&& ~~~ ((1 : Byte) <<< j.val)
    ((decProt p.protPos b).getLsbD m = (decProt p.protPos c).getLsbD m ∨
      (decProt p.protPos b).getLsbD n = (decProt p.protPos c).getLsbD n) ∧
    ((decTemp p.tempPos b).getLsbD m = (decTemp p.tempPos c).getLsbD m ∨
      (decTemp p.tempPos b).getLsbD n = (decTemp p.tempPos c).getLsbD n)

/-- R154, R156: PROT decodes the first byte received. -/
def Obligations.ProtCompletes : Prop :=
  ReadCompletes .prot 0x03 fun t w =>
    { t with protf := decProt t.params.protPos (w.extractLsb' 0 8)
             result := (decProt t.params.protPos (w.extractLsb' 0 8)).setWidth 32 }

/-- R154, R157: TEMPSTAT. -/
def Obligations.TempstatCompletes : Prop :=
  ReadCompletes .tempstat 0x05 fun t w =>
    { t with tempf := decTemp t.params.tempPos (w.extractLsb' 0 8)
             result := (decTemp t.params.tempPos (w.extractLsb' 0 8)).setWidth 32 }

/-- R154, R155, R158, R159: ISCHG and ISDSG refresh both FETF flags and return one: bit 0, bit 2 of the byte. -/
def Obligations.IschgAndIsdsgComplete : Prop :=
  ReadCompletes .ischg 0x7F (fun t w =>
    { t with fetf := decFet (w.extractLsb' 0 8), result := if w.getLsbD 0 then 1 else 0 }) ∧
  ReadCompletes .isdsg 0x7F (fun t w =>
    { t with fetf := decFet (w.extractLsb' 0 8), result := if w.getLsbD 2 then 1 else 0 })

/-- R160, R161, R162: DEC_PROT, DEC_TEMP, DEC_FET. -/
def Obligations.DecodingCommandsComplete : Prop :=
  ∀ (s : State) (b : Byte), Idle s →
    exec (.decProt b) s = .next { quiet s with
      protf := decProt s.params.protPos b, result := (decProt s.params.protPos b).setWidth 32 } ∧
    exec (.decTemp b) s = .next { quiet s with
      tempf := decTemp s.params.tempPos b, result := (decTemp s.params.tempPos b).setWidth 32 } ∧
    exec (.decFet b) s = .next { quiet s with fetf := decFet b, result := (decFet b).setWidth 32 }

/-! ## Configuration -/

/-- R170, R171: SETFET of every target and state; ON sends all-on for each target (R210). -/
def Obligations.SetfetCompletes : Prop :=
  WriteCompletes (.setfet .chg .off) [0x3E, 0x94, 0x00] ∧ WriteCompletes (.setfet .dch .off) [0x3E, 0x93, 0x00] ∧
  WriteCompletes (.setfet .all .off) [0x3E, 0x95, 0x00] ∧
  ∀ target, WriteCompletes (.setfet target .on) [0x3E, 0x96, 0x00]

/-- R172: for `q` the number nearest to mv / 50.6 (`506 q` within 253 of `10 mv`), the byte is `q` inside 20 to 110 and
the default 86 outside. -/
def Obligations.CovThresholdRoundsOrDefaults : Prop :=
  ∀ (mv : Half) (q : Nat), 506 * q ≤ 10 * mv.toNat + 253 → 10 * mv.toNat ≤ 506 * q + 253 →
    (covThresh mv).toNat = (if 20 ≤ q ∧ q ≤ 110 then q else 86)

/-- R173: for `n` the number nearest to ms / 3.3 (`66 n` within 33 of `20 ms`), the byte is the low byte of `n - 2` when
that is 1 to 2047, and 74 otherwise. -/
def Obligations.CovDelayRoundsDefaultsAndTruncates : Prop :=
  ∀ (ms : Half) (n : Nat), 66 * n ≤ 20 * ms.toNat + 33 → 20 * ms.toNat ≤ 66 * n + 33 →
    (covDelay ms).toNat = (if 3 ≤ n ∧ n ≤ 2049 then (n - 2) % 256 else 74)

/-- R174: SETCOV under every pattern of answers: two Data-Memory writes, threshold then delay, each with its own
bracket; a refusal in the first does not shorten the second. -/
def Obligations.SetcovCompletes : Prop :=
  ∀ (mv ms : Half) (s : State) (e1 d1 c1 x1 e2 d2 c2 x2 : Bool) (rest : List Input),
    Idle s → s.inputs = bracketAnswers e1 d1 c1 x1 ++ bracketAnswers e2 d2 c2 x2 ++ rest →
    Completes (.setcov mv ms) (bracketAnswers e1 d1 c1 x1 ++ bracketAnswers e2 d2 c2 x2).length s
      { s.ended (bracketWrites 1 e1 d1 c1 x1 ++ bracketWrites 7 e2 d2 c2 x2) rest
          (bracketTrace 0x9278 (covThresh mv) (~~~ dmAcc 0x9278 (covThresh mv)) e1 d1 c1 x1 ++
            bracketTrace 0x9279 (covDelay ms) (~~~ dmAcc 0x9279 (covDelay ms)) e2 d2 c2 x2) with
        acc := dmAcc 0x9279 (covDelay ms), seeded := true, mack := x2,
        cuMode := bracketMode (bracketMode s.cuMode e1 x1) e2 x2 }

/-! ## The whole machine -/

/-- R22, column "written by", and R28, R31 to R34: a command that is not named for a register leaves it as it was, in
every state and at every step; and no command touches the latch, the port, the parameters or the abandoned requests. -/
def Obligations.RegistersAreWrittenOnlyByTheirCommands : Prop :=
  ∀ (i : Instr) (s t : State), exec i s = .next t →
    (writesResult i = false → t.result = s.result) ∧ (writesRaw i = false → t.raw = s.raw) ∧
    (writesCsum i = false → t.acc = s.acc ∧ t.seeded = s.seeded) ∧
    (writesMode i = false → t.cuMode = s.cuMode ∧ t.mack = s.mack) ∧
    (i ≠ .allcellv → t.cells = s.cells) ∧
    (i ≠ .prot → (∀ b, i ≠ .decProt b) → t.protf = s.protf) ∧
    (i ≠ .tempstat → (∀ b, i ≠ .decTemp b) → t.tempf = s.tempf) ∧
    (i ≠ .ischg → i ≠ .isdsg → (∀ b, i ≠ .decFet b) → t.fetf = s.fetf) ∧
    (t.cmd = s.cmd ∧ t.port = s.port ∧ t.params = s.params ∧ t.late = s.late ∧ t.draws = s.draws)

/-- R181: once a refusal is recorded, the running command changes neither `err` nor `fstep`. -/
def Obligations.FirstRefusalIsKept : Prop :=
  ∀ (i : Instr) (s t : State), usesBus i = true → s.stepNo ≠ 0 → s.err = .busNack → exec i s = .next t →
    t.err = .busNack ∧ t.fstep = s.fstep

/-- The invariant holds right after reset (R37, R39). It includes that the default positions of PROT_POS and TEMP_POS are
legal (R9); those defaults are log entry 1, DESIGN CHOICE and UNVERIFIED. -/
def Obligations.InvariantAtReset : Prop := Inv State.reset

/-- R39, with R24, R36, R127 (c), R133, R187: every step keeps the invariant, from every state that has it. Its clause
`blocked_idle`, that no command with events runs while an abandoned request is unanswered (a delay still held after the
transport's return to idle included), is no rule of the spec: it rests on log entry 6, DESIGN CHOICE, the model's way to
keep R201 and R205. -/
def Obligations.EveryStepKeepsTheInvariant : Prop := ∀ s t : State, Inv s → step s = .next t → Inv t

/-- From R180 and R188: nothing stops CCA: from every state with the invariant a step answers a next state. For a waiting
state with no input that state is itself, read from R190 (log entry 9, DEDUCED). -/
def Obligations.InvariantStatesNeverStop : Prop := ∀ s : State, Inv s → ∃ t, step s = .next t

/-- R201, R205: a request abandoned by a Reset stays abandoned until an answer that fits it arrives, so the rest of a settle
delay that runs outlives a Reset. That the platform's reset of the transport ends abandoned bus requests and no delay is the model's
choice, log entry 6. -/
def Obligations.AbandonedRequestStaysUntilItsAnswer : Prop :=
  ∀ (s t : State) (r : Request), r ∈ s.late → step s = .next t →
    r ∈ t.late ∨ (∃ a rest, s.inputs = .answer a :: rest ∧ r.answeredBy a = true) ∨
      ((∃ rest, s.inputs = .transportReset :: rest) ∧ ∀ us, r ≠ .delay us)
end

