-- ==== Sys2Proof/Tests/Slice0.lean ====
section
/-! SUPPORT. Tests of the model, and a witness for the hypotheses of every statement that has some. Expected results are
those of spec/95_test_vectors.md (the vector is named) or of the rule named, never the model's own. -/

namespace Sys2Proof.Tests

open Sys2Proof Sys2Proof.Machine Sys2Proof.Claims

/-- The next state, if there is one. -/
def nextOf : Result → Option State
  | .next s => some s
  | .fault _ => none
  | .refused _ => none

/-- Just after reset, with what the outside does next. -/
def idleWith (inputs : List Input) : State := { State.reset with inputs := inputs }

/-- A command awaits the answer of step `k`, and `a` is the next input. -/
def awaiting (k : Nat) (a : Answer) : State :=
  { State.reset with busy := true, stepNo := BitVec.ofNat 6 k, inputs := [.answer a] }

/-- Two received bytes. -/
def two (r0 r1 : Byte) : Answer := .data [r0, r1]

/-! ## Well-formed terms (R83, R85): an ill-formed term for each check, and its nearest neighbours. -/

theorem test_wf_refuses_direct_80 : (Instr.direct 0x80).wf = false ∧ (Instr.direct 0x7F).wf = true := by decide
theorem test_wf_refuses_subcmd_mode_codes :
    (Instr.subcmd 0x0090).wf = false ∧ (Instr.subcmd 0x0092).wf = false ∧ (Instr.subcmd 0x0091).wf = true ∧
      (Instr.subcmd 0x0093).wf = true := by decide
theorem test_wf_refuses_cell_indexes :
    (Instr.cellv 0).wf = false ∧ (Instr.cellv 17).wf = false ∧ (Instr.cellv 31).wf = false ∧
      (Instr.cellv 1).wf = true ∧ (Instr.cellv 16).wf = true := by decide

/-! ## Decoding: words written out from R81 to R83 and section 2 of spec/95_test_vectors.md. -/

theorem test_decode_csClr : decode 0x0100000000 = some .csClr := by decide
theorem test_decode_csPush : decode 0x020000005A = some (.csPush 0x5A) := by decide
theorem test_decode_csGet : decode 0x0300000000 = some .csGet := by decide
theorem test_decode_direct : decode 0x1000000014 = some (.direct 0x14) := by decide
theorem test_decode_subcmd : decode 0x110000ABCD = some (.subcmd 0xABCD) := by decide
theorem test_decode_subrsp : decode 0x1200000000 = some .subrsp := by decide
theorem test_decode_dmread : decode 0x1300009278 = some (.dmread 0x9278) := by decide
theorem test_decode_dmwrite : decode 0x1400569278 = some (.dmwrite 0x9278 0x56) := by decide
theorem test_decode_cuEnter : decode 0x2000000000 = some .cuEnter := by decide
theorem test_decode_cuExit : decode 0x2100000000 = some .cuExit := by decide
theorem test_decode_cellv : decode 0x3000000010 = some (.cellv 16) := by decide
theorem test_decode_allcellv : decode 0x3100000000 = some .allcellv := by decide
theorem test_decode_current : decode 0x3200000000 = some .current := by decide
theorem test_decode_itemp : decode 0x3300000000 = some .itemp := by decide
theorem test_decode_therm :
    decode 0x3400000000 = some (.therm .ts1) ∧ decode 0x3400000003 = some (.therm .hdq) ∧
      decode 0x3400000005 = some (.therm .ddsg) := by decide
theorem test_decode_prot : decode 0x4000000000 = some .prot := by decide
theorem test_decode_tempstat : decode 0x4100000000 = some .tempstat := by decide
theorem test_decode_ischg : decode 0x4200000000 = some .ischg := by decide
theorem test_decode_isdsg : decode 0x4300000000 = some .isdsg := by decide
theorem test_decode_decProt : decode 0x440000000C = some (.decProt 0x0C) := by decide
theorem test_decode_decTemp : decode 0x4500000081 = some (.decTemp 0x81) := by decide
theorem test_decode_decFet : decode 0x4600000004 = some (.decFet 0x04) := by decide
theorem test_decode_setfet :
    decode 0x5000000001 = some (.setfet .dch .off) ∧ decode 0x5000000006 = some (.setfet .all .on) := by decide
theorem test_decode_setcov : decode 0x5103E81194 = some (.setcov 4500 1000) := by decide

/-- Section 2.8: illegal words. -/
theorem test_decode_illegal_words :
    ([0x0000000000, 0xFF00000000, 0x0400000000, 0x1500000000, 0x2200000000, 0x3500000000, 0x4700000000, 0x5200000000,
      0x0100000001, 0x020000015A, 0x1000000080, 0x10000000FF, 0x1100000090, 0x1100000092, 0x1100010012, 0x1200000001,
      0x1401569278, 0x3000000000, 0x3000000011, 0x300000001F, 0x3000000021, 0x3400000006, 0x3400000007, 0x3400000008,
      0x5000000003, 0x5000000007, 0x5000000008] : List CmdWord).all (fun w => decode w == none) = true := by decide

/-- R89's example, and the table's numbering of a word. -/
theorem test_encode_dmwrite : encode (.dmwrite 0x9278 0x56) = 0x1400569278 := by decide
theorem test_table_word : decodeTableWord 40 0x1400569278 = some (.dmwrite 0x9278 0x56) := by decide

/-! ## CSUM -/

/-- V1.22. -/
theorem test_csClr :
    (nextOf (exec .csClr { State.reset with acc := 0x5A, seeded := true })).map
      (fun t => (t.csumWord, t.statusWord)) = some (0x0000FF00, 0x00000000) := by decide
/-- V1.1. -/
theorem test_csPush_seeds_zero :
    (nextOf (exec (.csPush 0x00) State.reset)).map (fun t => (t.acc, t.seeded)) = some (0x00, true) := by decide
/-- V1.4. -/
theorem test_csPush_folds :
    (nextOf (exec (.csPush 0x34) { State.reset with acc := 0x12, seeded := true })).map (·.csumWord) =
      some 0x0001DE21 := by decide
/-- V1.21. -/
theorem test_csGet :
    (nextOf (exec .csGet { State.reset with acc := 0x12, seeded := true })).map (fun t => (t.result, t.acc)) =
      some (0xED, 0x12) := by decide
/-- V1.19. -/
theorem test_csGet_unseeded :
    (nextOf (exec .csGet { State.reset with result := 7 })).map (fun t => (t.statusWord, t.result, t.csumWord)) =
      some (0x00000004, 7, 0x0000FF00) := by decide

/-! ## Direct Commands and subcommands -/

/-- V2.1. -/
theorem test_direct_result :
    (nextOf (exec (.direct 0x14) (awaiting 2 (two 0x74 0x0E)))).map (fun t => (t.raw, t.result, t.statusWord)) =
      some (0x0E74, 0x00000E74, 0) := by decide
/-- V2.4: the read is made after a refused write too. -/
theorem test_direct_reads_after_nack :
    (nextOf (exec (.direct 0x34) (awaiting 1 (.wrote false)))).map (fun t => (t.pending, t.stepNo, t.err, t.fstep)) =
      some (some (.read 0x11 2), 2, .busNack, 1) := by decide
/-- V2.7. -/
theorem test_subcmd_frame :
    (nextOf (exec (.subcmd 0xABCD) State.reset)).map (fun t => (t.pending, t.busy, t.stepNo)) =
      some (some (.write 0x10 [0x3E, 0xCD, 0xAB]), true, 1) := by decide
theorem test_subcmd_nack :
    (nextOf (exec (.subcmd 0xABCD) (awaiting 1 (.wrote false)))).map (·.statusWord) = some 0x00000102 := by decide
/-- V2.10. -/
theorem test_subrsp_frame :
    (nextOf (exec .subrsp State.reset)).map (·.pending) = some (some (.write 0x10 [0x40])) := by decide
theorem test_subrsp_result :
    (nextOf (exec .subrsp (awaiting 2 (two 0x34 0x12)))).map (·.result) = some 0x00001234 := by decide

/-! ## CUSM -/

/-- V3.1: still EXITED while the delay runs, ENTERED after it. -/
theorem test_cuEnter_waits :
    (nextOf (exec .cuEnter (awaiting 1 (.wrote true)))).map (fun t => (t.cuMode, t.mack, t.pending)) =
      some (.exited, true, some (.delay 2000)) := by decide
theorem test_cuEnter_settles :
    (nextOf (exec .cuEnter { awaiting 2 .delayOver with mack := true })).map (·.statusWord) =
      some 0x00000008 := by decide
/-- V3.3: a refused EXIT keeps its delay and leaves the shadow. -/
theorem test_cuExit_nack_waits :
    (nextOf (exec .cuExit (awaiting 1 (.wrote false)))).map (fun t => (t.pending, t.mack)) =
      some (some (.delay 1000), false) := by decide
theorem test_cuExit_nack_keeps :
    (nextOf (exec .cuExit { awaiting 2 .delayOver with cuMode := .entered, err := .busNack, fstep := 1 })).map
      (·.statusWord) = some 0x0000010A := by decide

/-! ## Data-Memory -/

/-- V4.8. -/
theorem test_dmread_result :
    (nextOf (exec (.dmread 0x9278) (awaiting 3 (.data [0x56])))).map (fun t => (t.result, t.raw)) =
      some (0x00000056, 0x0056) := by decide
/-- V4.10. -/
theorem test_dmread_second_nack :
    (nextOf (exec (.dmread 0x9278) (awaiting 2 (.wrote false)))).map (fun t => (t.fstep, t.pending)) =
      some (2, some (.read 0x11 1)) := by decide
/-- V4.1, V1.17. -/
theorem test_dmwrite_checksum :
    (nextOf (exec (.dmwrite 0x9278 0x56) State.reset)).map (fun t => (t.csumWord, t.pending)) =
      some (0x0001F10E, some (.write 0x10 [0x3E, 0x90, 0x00])) := by decide
/-- V4.3: a refused DMW goes to EXIT. -/
theorem test_dmwrite_refused_payload :
    (nextOf (exec (.dmwrite 0x9278 0x56) (awaiting 3 (.wrote false)))).map (fun t => (t.stepNo, t.fstep, t.pending)) =
      some (5, 3, some (.write 0x10 [0x3E, 0x92, 0x00])) := by decide

/-! ## Measurement -/

/-- V5.2. -/
theorem test_cellv_frame :
    (nextOf (exec (.cellv 16) State.reset)).map (·.pending) = some (some (.write 0x10 [0x32])) := by decide
theorem test_cellv_result :
    (nextOf (exec (.cellv 16) (awaiting 2 (two 0x10 0x0E)))).map (fun t => (t.result, t.cells[15])) =
      some (3600, 0) := by decide
/-- R142: cell 1 is stored and cell 2 asked for; after step 32 the command ends. -/
theorem test_allcellv_first_cell :
    (nextOf (exec .allcellv (awaiting 2 (two 0x74 0x0E)))).map (fun t => (t.cells[0], t.pending, t.stepNo)) =
      some (3700, some (.write 0x10 [0x16]), 3) := by decide
theorem test_allcellv_last_cell :
    (nextOf (exec .allcellv (awaiting 32 (two 0x74 0x0E)))).map (fun t => (t.cells[15], t.raw, t.result, t.busy)) =
      some (3700, 3700, 0, false) := by decide
/-- V5.5, with the default and with the parameter true. -/
theorem test_current_unsigned :
    (nextOf (exec .current (awaiting 2 (two 0x18 0xFC)))).map (·.result) = some 0x0000FC18 := by decide
theorem test_current_signed :
    (nextOf (exec .current
      { awaiting 2 (two 0x18 0xFC) with params := { Config.Params.default with currentSignExtend := true } })).map
      (·.result) = some 0xFFFFFC18 := by decide
/-- V5.8, V5.9. -/
theorem test_itemp :
    (nextOf (exec .itemp (awaiting 2 (two 0x41 0x0B)))).map (·.result) = some 0x000005D7 := by decide
theorem test_itemp_negative :
    (nextOf (exec .itemp (awaiting 2 (two 0x00 0x00)))).map (·.result) = some 0xFFFF954D := by decide
/-- V5.14. -/
theorem test_therm_frame :
    (nextOf (exec (.therm .hdq) State.reset)).map (·.pending) = some (some (.write 0x10 [0x76])) := by decide
theorem test_therm_result :
    (nextOf (exec (.therm .hdq) (awaiting 2 (two 0xA6 0x0B)))).map (·.result) = some 0x000009C9 := by decide

/-! ## RDEC, with the default positions -/

/-- V6.5, V6.6. -/
theorem test_prot :
    (nextOf (exec .prot (awaiting 2 (two 0x88 0x00)))).map (fun t => (t.protf, t.result)) =
      some (0x11, 0x00000011) := by decide
theorem test_prot_ignores_high_byte :
    (nextOf (exec .prot (awaiting 2 (two 0x08 0xFF)))).map (fun t => (t.protf, t.raw)) = some (0x10, 0xFF08) := by
  decide
/-- V6.7. -/
theorem test_tempstat :
    (nextOf (exec .tempstat (awaiting 2 (two 0x81 0x00)))).map (fun t => (t.tempf, t.result)) =
      some (0x41, 0x00000041) := by decide
/-- V6.8. -/
theorem test_ischg :
    (nextOf (exec .ischg (awaiting 2 (two 0x05 0x00)))).map (fun t => (t.fetf, t.result)) = some (0x3, 1) := by decide
/-- V6.9, V6.10. -/
theorem test_isdsg_off :
    (nextOf (exec .isdsg (awaiting 2 (two 0x01 0x00)))).map (fun t => (t.fetf, t.result)) = some (0x1, 0) := by decide
theorem test_isdsg_on :
    (nextOf (exec .isdsg (awaiting 2 (two 0x04 0x00)))).map (fun t => (t.fetf, t.result)) = some (0x2, 1) := by decide
/-- V6.1. -/
theorem test_decProt :
    (nextOf (exec (.decProt 0x0C) State.reset)).map (fun t => (t.protf, t.result)) = some (0x30, 0x00000030) := by
  decide
/-- V6.3. -/
theorem test_decTemp :
    (nextOf (exec (.decTemp 0x81) State.reset)).map (fun t => (t.tempf, t.result)) = some (0x41, 0x00000041) := by
  decide
/-- V6.4. -/
theorem test_decFet :
    (nextOf (exec (.decFet 0x04) State.reset)).map (fun t => (t.fetf, t.result)) = some (0x2, 0x00000002) := by decide

/-! ## Configuration -/

/-- Section 2.7, rows 0x5000000001 and 0x5000000004. -/
theorem test_setfet_dch_off :
    (nextOf (exec (.setfet .dch .off) State.reset)).map (·.pending) =
      some (some (.write 0x10 [0x3E, 0x93, 0x00])) := by decide
theorem test_setfet_chg_on :
    (nextOf (exec (.setfet .chg .on) State.reset)).map (·.pending) =
      some (some (.write 0x10 [0x3E, 0x96, 0x00])) := by decide
/-- SETCOV 0, 0: 86 and 74 are written; F1 and FC are the checksums. -/
theorem test_setcov_first_write :
    (nextOf (exec (.setcov 0 0) { awaiting 3 (.wrote true) with acc := 0x0E })).map (·.pending) =
      some (some (.write 0x10 [0x60, 0xF1, 0x05])) := by decide
theorem test_setcov_second_write :
    (nextOf (exec (.setcov 0 0) { awaiting 6 .delayOver with mack := true })).map
      (fun t => (t.stepNo, t.csumWord, t.pending)) =
      some (7, 0x0001FC03, some (.write 0x10 [0x3E, 0x90, 0x00])) := by decide
/-- The threshold table of section 2.7. -/
theorem test_covThresh :
    (([0, 986, 987, 1037, 1038, 4326, 4327, 4352, 4377, 4500, 5591, 5592, 13966, 65535] : List Half).map covThresh) =
      [86, 86, 20, 20, 21, 85, 86, 86, 87, 89, 110, 86, 86, 86] := by decide
/-- The delay table of section 2.7. -/
theorem test_covDelay :
    (([0, 8, 9, 100, 250, 849, 850, 1000, 1694, 1695, 6763, 6764, 65535] : List Half).map covDelay) =
      [74, 74, 1, 28, 74, 255, 0, 45, 255, 0, 255, 74, 74] := by decide

/-! ## One step of the machine -/

/-- V1.23, V2.5: an illegal word leaves CSUM and RESULT. -/
theorem test_step_illegal :
    (nextOf (step ({ State.reset with acc := 0x5A, seeded := true }.withFetchWord 40 0x020000015A))).map
      (fun t => (t.statusWord, t.csumWord, t.cmd, t.busy)) =
      some (0x00000014, 0x0001A55A, 0x020000015A, false) := by decide
/-- R190: nothing arrives, nothing changes. -/
theorem test_step_hang :
    nextOf (step { State.reset with busy := true, stepNo := 1 }) =
      some { State.reset with busy := true, stepNo := 1 } := by decide
/-- V9.3: Reset during the delay of DMWRITE. -/
theorem test_step_reset_in_delay :
    (nextOf (step
      { State.reset with
        busy := true, stepNo := 2, cmd := 0x1400569278, mack := true, acc := 0x0E, seeded := true,
        pending := some (.delay 2000), inputs := [.reset] })).map
      (fun t => (t.statusWord, t.csumWord, t.pending, t.trace)) =
      some (0x00000000, 0x0000FF00, none, [.reset]) := by decide
/-- R187 (c): Reset wins over a word that waits at an idle CCA. -/
theorem test_step_reset_before_word :
    (nextOf (step { State.reset with acc := 0x5A, seeded := true, port := [0x0300000000], inputs := [.reset] })).map
      (fun t => (t.csumWord, t.port, t.trace)) = some (0x0000FF00, [0x0300000000], [.reset]) := by decide
/-- A pause before the Reset lets the word run first. -/
theorem test_step_word_before_pause :
    (nextOf (step { State.reset with port := [0x020000005A], inputs := [.pause, .reset] })).map
      (fun t => (t.acc, t.seeded, t.inputs)) = some (0x5A, true, [.pause, .reset]) := by decide
/-- R201, R205: after a Reset in a settle delay a bus command waits for the end of that delay. -/
theorem test_step_waits_for_late_delay :
    (nextOf (step
      { State.reset with
        late := [.delay 2000], port := [0x1000000014], inputs := [.transportReset, .answer .delayOver] })).map
      (fun t => (t.late, t.port, t.busy)) = some ([.delay 2000], [0x1000000014], false) := by decide
/-- withFetchWord runs its word next even where a Reset is the next input. -/
theorem test_withFetchWord_before_reset :
    (nextOf (step ({ State.reset with late := [.delay 1000], inputs := [.reset] }.withFetchWord 40 0x1000000014))).map
      (fun t => (t.cmd, t.pending)) = some (0x1000000014, some (.write 0x10 [0x14])) := by decide
/-- R201: after a Reset a bus command waits for the late answer. -/
theorem test_step_waits_for_late_answer :
    (nextOf (step
      { State.reset with
        late := [.write 0x10 [0x14]], port := [0x1000000014], inputs := [.answer (.wrote true)] })).map
      (fun t => (t.late, t.port, t.trace)) = some ([], [0x1000000014], [.discarded (.wrote true)]) := by decide

/-! ## Witnesses: for every statement with hypotheses, a state and operands that meet all of them. -/

/-- A command is running: `w` is latched, step `k` awaits the answer of `r`. -/
def running (w : CmdWord) (k : Nat) (r : Request) (inputs : List Input) : State :=
  { State.reset with busy := true, stepNo := BitVec.ofNat 6 k, cmd := w, pending := some r, inputs := inputs }

/-- CU_ENTER awaits the end of its delay, the write acknowledged. -/
def entering : State := { running 0x2000000000 2 (.delay 2000) [.answer .delayOver] with mack := true }

/-- CU_EXIT awaits the end of its delay, the write acknowledged. -/
def exiting : State :=
  { running 0x2100000000 2 (.delay 1000) [.answer .delayOver] with mack := true, cuMode := .entered }

/-- DMWRITE 0x9278, 0x56 awaits the answer of step `k`, `ENTER` acknowledged and its delay over. -/
def writing (k : Nat) (r : Request) (inputs : List Input) : State :=
  { running 0x1400569278 k r inputs with mack := true, cuMode := .entered, acc := 0x0E, seeded := true }

/-- DMWRITE 0x9278, 0x56 in the delay after an acknowledged ENTER. -/
def settling : State :=
  { running 0x1400569278 2 (.delay 2000) [.answer .delayOver] with mack := true, acc := 0x0E, seeded := true }

/-- A request abandoned by a Reset is with the transport. -/
def blocked (port : List CmdWord) (inputs : List Input) : State :=
  { State.reset with late := [.write 0x10 [0x14]], port := port, inputs := inputs }

/-- The invariant at a running state of a command without a Data-Memory write. -/
theorem inv_of_running {s : State} {i : Instr} (hb : s.busy = true) (hs : s.stepNo ≠ 0) (hd : decode s.cmd = some i)
    (hp : s.pending.isSome = true ∧ s.pending = eventAt i s.stepNo.toNat) (he : s.err = .ok ∧ s.fstep = 0)
    (hc : s.seeded = false → s.acc = 0) (hbr : bracketHolds s i) (hl : s.late = [])
    (hq : s.params.legal = true) : Inv s where
  idle_iff := ⟨fun h => by simp [hb] at h, fun h => absurd h hs⟩
  idle_quiet := by simp [hb]
  unseeded_clear := hc
  nack_iff := by simp [he.1, he.2]
  running := fun _ => ⟨i, hd, hp.1, hp.2, by simp [he.1], hbr⟩
  blocked_idle := by simp [State.transportBlocked, hl]
  params_legal := hq

theorem inv_entering : Inv entering :=
  inv_of_running (i := .cuEnter) rfl (by decide) (by decide) (by decide) (by decide) (by decide)
    (fun _ _ _ h => by simp [bracketAt] at h) rfl (by decide)

theorem inv_exiting : Inv exiting :=
  inv_of_running (i := .cuExit) rfl (by decide) (by decide) (by decide) (by decide) (by decide)
    (fun _ _ _ h => by simp [bracketAt] at h) rfl (by decide)

theorem inv_settling : Inv settling :=
  inv_of_running (i := .dmwrite 0x9278 0x56) rfl (by decide) (by decide) (by decide) (by decide) (by decide)
    (fun addr val row h => by
      have hrow : (0x9278, 0x56, 1) = (addr, val, row) := by simpa [bracketAt, settling, running] using h
      cases hrow
      exact ⟨rfl, by decide, by decide⟩) rfl (by decide)

theorem inv_blocked (port : List CmdWord) (inputs : List Input) : Inv (blocked port inputs) where
  idle_iff := by simp [blocked, State.reset]
  idle_quiet := by simp [blocked, State.reset]
  unseeded_clear := by simp [blocked, State.reset]
  nack_iff := by simp [blocked, State.reset]
  running := by simp [blocked, State.reset]
  blocked_idle := by simp [blocked, State.reset]
  params_legal := by simp only [blocked, State.reset]; decide

theorem inv_running_enter (inputs : List Input) :
    Inv (running 0x2000000000 1 (.write 0x10 [0x3E, 0x90, 0x00]) inputs) :=
  inv_of_running (i := .cuEnter) rfl (by decide : (1 : BitVec 6) ≠ 0) (by decide : decode 0x2000000000 = some .cuEnter)
    ⟨rfl, by rfl⟩ ⟨rfl, rfl⟩ (fun _ => rfl) (fun _ _ _ h => by simp [bracketAt] at h) rfl (by decide : Config.Params.default.legal = true)

theorem inv_running_exit (inputs : List Input) :
    Inv (running 0x2100000000 1 (.write 0x10 [0x3E, 0x92, 0x00]) inputs) :=
  inv_of_running (i := .cuExit) rfl (by decide : (1 : BitVec 6) ≠ 0) (by decide : decode 0x2100000000 = some .cuExit)
    ⟨rfl, by rfl⟩ ⟨rfl, rfl⟩ (fun _ => rfl) (fun _ _ _ h => by simp [bracketAt] at h) rfl (by decide : Config.Params.default.legal = true)

theorem inv_writing_dmw : Inv (writing 3 (.write 0x10 [0x3E, 0x78, 0x92, 0x56]) [.answer (.wrote true)]) :=
  inv_of_running (i := .dmwrite 0x9278 0x56) rfl (by decide) (by decide) (by decide) (by decide) (by decide)
    (fun addr val row h => by
      have hrow : (0x9278, 0x56, 2) = (addr, val, row) := by simpa [bracketAt, writing, running] using h
      cases hrow
      exact ⟨rfl, by decide, by decide⟩) rfl (by decide)

theorem witness_DecodeOfEncodeIsTheCommand :
    (Instr.direct 0x7F).wf = true ∧ (Instr.cellv 1).wf = true ∧ (Instr.cellv 16).wf = true ∧
      (Instr.subcmd 0xFFFF).wf = true ∧ (Instr.setcov 0xFFFF 0xFFFF).wf = true := by decide
theorem witness_EncodeOfDecodeIsTheWord :
    decode 0x51FFFFFFFF = some (.setcov 0xFFFF 0xFFFF) ∧ decode 0x100000007F = some (.direct 0x7F) := by decide
theorem witness_ListedEncodingsAreIllegal :
    (0xFF : Byte).toNat ∉ [0x01, 0x02, 0x03, 0x10, 0x11, 0x12, 0x13, 0x14, 0x20, 0x21, 0x30, 0x31, 0x32, 0x33, 0x34,
      0x40, 0x41, 0x42, 0x43, 0x44, 0x45, 0x46, 0x50, 0x51] ∧
    ((0x43 : Byte).toNat ∈ [0x01, 0x03, 0x12, 0x20, 0x21, 0x31, 0x32, 0x33, 0x40, 0x41, 0x42, 0x43] ∧
      (0x80000000 : Word) ≠ 0) ∧
    ((0x02 : Byte).toNat ∈ [0x02, 0x10, 0x44, 0x45, 0x46] ∧ 2 ^ 8 ≤ (0x100 : Word).toNat) ∧
    ((0x13 : Byte).toNat ∈ [0x11, 0x13] ∧ 2 ^ 16 ≤ (0x10000 : Word).toNat) ∧
    2 ^ 24 ≤ (0x1000000 : Word).toNat ∧ 0x80 ≤ (0x80 : Word).toNat ∧
    ((0 : Word).toNat = 0 ∨ 17 ≤ (0 : Word).toNat) ∧ ((17 : Word).toNat = 0 ∨ 17 ≤ (17 : Word).toNat) ∧
    6 ≤ (6 : Word).toNat ∧ ((3 : Word).toNat % 4 = 3 ∨ 8 ≤ (3 : Word).toNat) ∧
    ((8 : Word).toNat % 4 = 3 ∨ 8 ≤ (8 : Word).toNat) := by decide

/-- No Reset is next when nothing comes next. -/
theorem not_resetNext_of_nil {s : State} (h : s.inputs = []) : ¬ ResetNext s := by simp [ResetNext, h]

theorem witness_AcceptedWordRunsItsCommand :
    ({ State.reset with port := [0x1000000014] } : State).busy = false ∧
      ¬ ResetNext { State.reset with port := [0x1000000014] } ∧ decode 0x1000000014 = some (.direct 0x14) ∧
      ({ State.reset with port := [0x1000000014] } : State).late = [] :=
  ⟨rfl, not_resetNext_of_nil rfl, by decide, rfl⟩
theorem witness_AcceptedWordRunsItsCommand_blocked :
    (blocked [0x0100000000] []).busy = false ∧ ¬ ResetNext (blocked [0x0100000000] []) ∧
      (blocked [0x0100000000] []).port = [0x0100000000] ∧ decode 0x0100000000 = some .csClr ∧ usesBus .csClr = false :=
  ⟨rfl, not_resetNext_of_nil rfl, rfl, by decide, rfl⟩
theorem witness_AcceptanceIssuesTheFirstEvent :
    Idle State.reset ∧ usesBus (.dmwrite 0x9278 0x56) = true ∧ usesBus .itemp = true := ⟨⟨rfl, rfl⟩, rfl, rfl⟩
theorem witness_AnswerRunsTheLatchedCommand :
    entering.busy = true ∧ entering.inputs = [.answer .delayOver] ∧ entering.pending = some (.delay 2000) ∧
      Request.answeredBy (.delay 2000) .delayOver = true ∧ dropLate .delayOver entering.late = none ∧
      decode entering.cmd = some .cuEnter := by decide
theorem witness_IllegalWordIsRefusedWhole :
    ({ State.reset with port := [0x1000000080] } : State).busy = false ∧
      ¬ ResetNext { State.reset with port := [0x1000000080] } ∧
      ({ State.reset with port := [0x1000000080] } : State).port = [0x1000000080] ∧ decode 0x1000000080 = none :=
  ⟨rfl, not_resetNext_of_nil rfl, rfl, by decide⟩
theorem witness_BusyTakesNoWord :
    ∃ t, (running 0x2000000000 2 (.delay 2000) [.present 0x0100000000]).busy = true ∧
      step (running 0x2000000000 2 (.delay 2000) [.present 0x0100000000]) = .next t ∧ t.port = [0x0100000000] :=
  ⟨_, rfl, rfl, rfl⟩
theorem witness_OnlyAnswerOrResetEndsAWait_silence :
    (running 0x2000000000 2 (.delay 2000) []).busy = true ∧ (running 0x2000000000 2 (.delay 2000) []).inputs = [] :=
  ⟨rfl, rfl⟩
theorem witness_OnlyAnswerOrResetEndsAWait :
    ∃ t, entering.busy = true ∧ step entering = .next t ∧ ¬ SameRegisters entering t :=
  ⟨_, rfl, rfl, fun h => by cases h.1⟩
theorem witness_ResetClearsEveryRegister :
    (idleWith [.reset]).inputs = [.reset] ∧ (blocked [0x0100000000] [.reset]).inputs = [.reset] ∧
      (running 0x2000000000 2 (.delay 2000) [.reset]).inputs = [.reset] := by decide
theorem witness_RegistersReadAfterReset : (31 : RegNo) ≠ 3 ∧ (2 : RegNo) ≠ 3 ∧ (4 : RegNo) ≠ 3 := by decide
theorem witness_LateAnswerIsDiscarded :
    (blocked [] [.answer (.wrote true)]).fetch = none ∧
      dropLate (.wrote true) (blocked [] [.answer (.wrote true)]).late = some [] := by decide
theorem witness_NoRequestWhileTransportBlocked :
    ∃ t, Inv (blocked [0x1000000014] [.answer (.wrote true)]) ∧
      (blocked [0x1000000014] [.answer (.wrote true)]).late ≠ [] ∧
      step (blocked [0x1000000014] [.answer (.wrote true)]) = .next t := ⟨_, inv_blocked _ _, by decide, rfl⟩
theorem witness_HostReadHasNoSideEffect :
    (idleWith [.hostRead 0]).fetch = none ∧ (idleWith [.hostRead 31]).inputs = [.hostRead 31] ∧
      (running 0x2000000000 2 (.delay 2000) [.hostRead 0]).fetch = none ∧
      (running 0x2000000000 2 (.delay 2000) [.hostRead 0]).busy = true := by decide
theorem witness_RegisterFileLayout :
    State.reset.err = .ok ∧ ({ State.reset with err := .busNack } : State).err = .busNack ∧
      ({ State.reset with err := .illegal } : State).err = .illegal ∧
    (7 ≤ (7 : RegNo).toNat ∧ (7 : RegNo).toNat ≤ 15) ∧ (7 ≤ (15 : RegNo).toNat ∧ (15 : RegNo).toNat ≤ 15) := by decide

theorem witness_CsClrClearsTheChecksum : Idle { State.reset with acc := 0x12, seeded := true } := ⟨rfl, rfl⟩
theorem witness_CsPushSeedsThenFolds :
    (Idle State.reset ∧ State.reset.seeded = false) ∧ Idle { State.reset with acc := 0xFF, seeded := true } :=
  ⟨⟨⟨rfl, rfl⟩, rfl⟩, rfl, rfl⟩
theorem witness_CsGetReturnsComplementOrIsIllegal :
    (Idle State.reset ∧ State.reset.seeded = false) ∧ Idle { State.reset with acc := 0xFF, seeded := true } :=
  ⟨⟨⟨rfl, rfl⟩, rfl⟩, rfl, rfl⟩
/-- Also for DecodingCommandsComplete. -/
theorem witness_PushedBytesGiveTheChecksumByte : Idle State.reset := ⟨rfl, rfl⟩
theorem witness_ChecksumIsTheAlternatingSum :
    ([0x5A] : List Byte).length % 2 = 1 ∧ ([0x12, 0x34] : List Byte).length % 2 = 0 := by decide

/-- The hypotheses of `ReadCompletes`: for DirectCompletes, SubrspCompletes, CellvCompletes, CurrentCompletes,
ItempCompletes, ThermCompletes, ProtCompletes, TempstatCompletes, IschgAndIsdsgComplete. -/
theorem witness_ReadCompletes :
    Idle (idleWith [.answer (.wrote true), .answer (.data [0x74, 0x0E]), .reset]) ∧
      (idleWith [.answer (.wrote true), .answer (.data [0x74, 0x0E]), .reset]).inputs =
        [.answer (.wrote true), .answer (.data [0x74, 0x0E])] ++ [.reset] := ⟨⟨rfl, rfl⟩, rfl⟩
/-- The hypotheses of `WriteCompletes`: for SubcmdCompletes, SetfetCompletes. -/
theorem witness_WriteCompletes :
    Idle (idleWith [.answer (.wrote false)]) ∧
      (idleWith [.answer (.wrote false)]).inputs = [.answer (.wrote false)] ++ [] := ⟨⟨rfl, rfl⟩, rfl⟩
theorem witness_DirectCompletes : (0x00 : Byte).toNat ≤ 0x7F ∧ (0x7F : Byte).toNat ≤ 0x7F := by decide
theorem witness_SubcmdCompletes : (0x0091 : Half) ≠ 0x0090 ∧ (0x0091 : Half) ≠ 0x0092 := by decide
theorem witness_DirectReadsMakeNoOtherTraffic :
    ∃ t, (directOpcode (.therm .ddsg)).isSome = true ∧ exec (.therm .ddsg) State.reset = .next t := ⟨_, rfl, rfl⟩
theorem witness_CuEnterAndCuExitComplete :
    Idle (idleWith [.answer (.wrote true), .answer .delayOver]) ∧
      (idleWith [.answer (.wrote true), .answer .delayOver]).inputs =
        [.answer (.wrote true), .answer .delayOver] ++ [] := ⟨⟨rfl, rfl⟩, rfl⟩
theorem witness_ShadowChangesOnlyAtSettle_enter :
    ∃ t, Inv entering ∧ step entering = .next t ∧ t.cuMode ≠ entering.cuMode :=
  ⟨_, inv_entering, rfl, fun h => by cases h⟩
theorem witness_ShadowChangesOnlyAtSettle_exit :
    ∃ t, Inv exiting ∧ step exiting = .next t ∧ t.cuMode ≠ exiting.cuMode :=
  ⟨_, inv_exiting, rfl, fun h => by cases h⟩
theorem witness_SettleDelayFollowsModeWrite_enter :
    ∃ t, Inv (running 0x2000000000 1 (.write 0x10 [0x3E, 0x90, 0x00]) [.answer (.wrote false)]) ∧
      step (running 0x2000000000 1 (.write 0x10 [0x3E, 0x90, 0x00]) [.answer (.wrote false)]) = .next t ∧
      decode 0x2000000000 ≠ some (.dmread 0x0090) := ⟨_, inv_running_enter _, rfl, by decide⟩
theorem witness_SettleDelayFollowsModeWrite_exit :
    ∃ t, Inv (running 0x2100000000 1 (.write 0x10 [0x3E, 0x92, 0x00]) [.answer (.wrote true)]) ∧
      step (running 0x2100000000 1 (.write 0x10 [0x3E, 0x92, 0x00]) [.answer (.wrote true)]) = .next t ∧
      decode 0x2100000000 ≠ some (.dmread 0x0092) := ⟨_, inv_running_exit _, rfl, by decide⟩
theorem witness_OnlyFourCommandsSendModeSubcommands :
    ∃ t u, (Instr.subcmd 0x0012).wf = true ∧ exec (.subcmd 0x0012) State.reset = .next t ∧
      writesMode (.subcmd 0x0012) = false ∧ exec (.dmread 0x0090) State.reset = .next u ∧
      writesMode (.dmread 0x0090) = false := ⟨_, _, by decide, rfl, rfl, rfl, rfl⟩
theorem witness_PayloadOnlyWhileEntered_dmw :
    ∃ t, Inv settling ∧ step settling = .next t ∧ t.pending = some (.write 0x10 [0x3E, 0x78, 0x92, 0x56]) :=
  ⟨_, inv_settling, rfl, rfl⟩
theorem witness_PayloadOnlyWhileEntered_ckl :
    ∃ t, Inv (writing 3 (.write 0x10 [0x3E, 0x78, 0x92, 0x56]) [.answer (.wrote true)]) ∧
      step (writing 3 (.write 0x10 [0x3E, 0x78, 0x92, 0x56]) [.answer (.wrote true)]) = .next t ∧
      t.pending = some (.write 0x10 [0x60, 0xF1, 0x05]) := ⟨_, inv_writing_dmw, rfl, rfl⟩
theorem witness_DmreadCompletes :
    Idle (idleWith [.answer (.wrote true), .answer (.wrote false), .answer (.data [0x56])]) ∧
      (idleWith [.answer (.wrote true), .answer (.wrote false), .answer (.data [0x56])]).inputs =
        [.answer (.wrote true), .answer (.wrote false), .answer (.data [0x56])] ++ [] := ⟨⟨rfl, rfl⟩, rfl⟩
/-- Also for DmwriteBracketsItsPayload. -/
theorem witness_DmwriteCompletes :
    Idle (idleWith (bracketAnswers true false false true)) ∧ Idle (idleWith (bracketAnswers true true true true)) ∧
      (idleWith (bracketAnswers true true true true)).inputs = bracketAnswers true true true true ++ [] :=
  ⟨⟨rfl, rfl⟩, ⟨rfl, rfl⟩, rfl⟩
theorem witness_CellvCompletes :
    (1 ≤ (1 : BitVec 5).toNat ∧ (1 : BitVec 5).toNat ≤ 16) ∧ (1 ≤ (16 : BitVec 5).toNat ∧ (16 : BitVec 5).toNat ≤ 16) := by
  decide
theorem witness_AllcellvCompletes :
    Idle (idleWith ((List.finRange 16).flatMap fun _ => [.answer (.wrote true), .answer (.data [0x74, 0x0E])])) ∧
      (idleWith ((List.finRange 16).flatMap fun _ => [.answer (.wrote true), .answer (.data [0x74, 0x0E])])).inputs =
        (List.finRange 16).flatMap (fun _ => [.answer (.wrote true), .answer (.data [0x74, 0x0E])]) ++ [] :=
  ⟨⟨rfl, rfl⟩, by simp [idleWith]⟩
theorem witness_ThermCompletes :
    (Thermistor.ddsg, (0x7A : Byte)) ∈ [(Thermistor.ts1, (0x70 : Byte)), (.ts2, 0x72), (.ts3, 0x74), (.hdq, 0x76),
      (.dchg, 0x78), (.ddsg, 0x7A)] := by decide
theorem witness_NoBitFeedsTwoFlags : Config.Params.default.legal = true ∧ (0 : Nat) ≠ 5 := by decide
/-- 986 and 987, 5591 and 5592: the two ends of the range of `q`. -/
theorem witness_CovThresholdRoundsOrDefaults :
    (506 * 19 ≤ 10 * (986 : Half).toNat + 253 ∧ 10 * (986 : Half).toNat ≤ 506 * 19 + 253) ∧
    (506 * 20 ≤ 10 * (987 : Half).toNat + 253 ∧ 10 * (987 : Half).toNat ≤ 506 * 20 + 253) ∧
    (506 * 110 ≤ 10 * (5591 : Half).toNat + 253 ∧ 10 * (5591 : Half).toNat ≤ 506 * 110 + 253) ∧
    (506 * 111 ≤ 10 * (5592 : Half).toNat + 253 ∧ 10 * (5592 : Half).toNat ≤ 506 * 111 + 253) := by decide
/-- 8 and 9, 6763 and 6764: the two ends of the range of `n - 2`. -/
theorem witness_CovDelayRoundsDefaultsAndTruncates :
    (66 * 2 ≤ 20 * (8 : Half).toNat + 33 ∧ 20 * (8 : Half).toNat ≤ 66 * 2 + 33) ∧
    (66 * 3 ≤ 20 * (9 : Half).toNat + 33 ∧ 20 * (9 : Half).toNat ≤ 66 * 3 + 33) ∧
    (66 * 2049 ≤ 20 * (6763 : Half).toNat + 33 ∧ 20 * (6763 : Half).toNat ≤ 66 * 2049 + 33) ∧
    (66 * 2050 ≤ 20 * (6764 : Half).toNat + 33 ∧ 20 * (6764 : Half).toNat ≤ 66 * 2050 + 33) := by decide
theorem witness_SetcovCompletes :
    Idle (idleWith (bracketAnswers true true true true ++ bracketAnswers false true true true)) ∧
      (idleWith (bracketAnswers true true true true ++ bracketAnswers false true true true)).inputs =
        bracketAnswers true true true true ++ bracketAnswers false true true true ++ [] := ⟨⟨rfl, rfl⟩, rfl⟩
theorem witness_RegistersAreWrittenOnlyByTheirCommands :
    ∃ t, exec (.subcmd 0x0012) State.reset = .next t ∧ writesResult (.subcmd 0x0012) = false ∧
      writesRaw (.subcmd 0x0012) = false ∧ writesCsum (.subcmd 0x0012) = false ∧
      writesMode (.subcmd 0x0012) = false := ⟨_, rfl, rfl, rfl, rfl, rfl⟩
theorem witness_FirstRefusalIsKept :
    ∃ t, usesBus .subrsp = true ∧
      exec .subrsp { awaiting 2 (two 0x34 0x12) with err := .busNack, fstep := 1 } = .next t := ⟨_, rfl, rfl⟩
theorem witness_EveryStepKeepsTheInvariant : ∃ t, Inv settling ∧ step settling = .next t := ⟨_, inv_settling, rfl⟩
theorem witness_AbandonedRequestStaysUntilItsAnswer :
    ∃ t, Request.delay 2000 ∈ ({ State.reset with late := [.delay 2000], inputs := [.reset] } : State).late ∧
      step { State.reset with late := [.delay 2000], inputs := [.reset] } = .next t := ⟨_, by decide, rfl⟩
theorem witness_InvariantStatesNeverStop : Inv settling ∧ Inv entering ∧ Inv (blocked [] []) :=
  ⟨inv_settling, inv_entering, inv_blocked [] []⟩

end Sys2Proof.Tests
end

section
/-! What a transition of a command can answer: one rule for each shared operation of the step tables, for any property of
the next state. A proof about a command names its rows by these rules and unfolds no awaiting of an answer. -/

namespace Sys2Proof.Machine

/-- Whatever next state a transition answers has the property `P`. -/
def NextIs (P : State → Prop) (r : Result) : Prop := ∀ t, r = .next t → P t

theorem nextIs_next {P : State → Prop} {t : State} (h : P t) : NextIs P (.next t) := by
  intro t' ht'
  cases ht'
  exact h

theorem nextIs_fault (P : State → Prop) (f : Fault) : NextIs P (.fault f) := fun _ h => nomatch h

section Awaiting

variable {P : State → Prop} {s : State}

/-- R190, R192 (b): the machine hangs, or takes the answer of the write. -/
theorem nextIs_onWrite {k : Bool → State → State} (hang : P s)
    (wrote : ∀ ok rest, s.inputs = .answer (.wrote ok) :: rest → P (k ok (s.take (.wrote ok) rest))) :
    NextIs P (onWrite s k) := by
  obtain h | ⟨ok, rest, hin, h⟩ := onWrite_cases s k
  · exact h ▸ nextIs_next hang
  · exact h ▸ nextIs_next (wrote ok rest hin)

theorem nextIs_onRead2 {k : State → State} (hang : P s)
    (read : ∀ r0 r1 rest, P (k { s.take (.data [r0, r1]) rest with raw := assemble r0 r1 })) :
    NextIs P (onRead2 s k) := by
  obtain h | ⟨r0, r1, rest, -, h⟩ := onRead2_cases s k
  · exact h ▸ nextIs_next hang
  · exact h ▸ nextIs_next (read r0 r1 rest)

theorem nextIs_onRead1 {k : Byte → State → State} (hang : P s)
    (read : ∀ r0 rest, P (k r0 { s.take (.data [r0]) rest with raw := r0.setWidth 16 })) :
    NextIs P (onRead1 s k) := by
  obtain h | ⟨r0, rest, -, h⟩ := onRead1_cases s k
  · exact h ▸ nextIs_next hang
  · exact h ▸ nextIs_next (read r0 rest)

theorem nextIs_onDelay {k : State → State} (hang : P s)
    (elapsed : ∀ rest, s.inputs = .answer .delayOver :: rest → P (k (s.take .delayOver rest))) :
    NextIs P (onDelay s k) := by
  obtain h | ⟨rest, hin, h⟩ := onDelay_cases s k
  · exact h ▸ nextIs_next hang
  · exact h ▸ nextIs_next (elapsed rest hin)

/-- R110: the three transitions of a Direct Command read. -/
theorem nextIs_directRead {op : Byte} {fin : State → State} (hang : P s)
    (accept : s.stepNo = 0 → P (s.start (frameDC op)))
    (written : s.stepNo = 1 → ∀ ok rest, P (((s.take (.wrote ok) rest).noteNack 1 ok).issue 2 (busRead 2)))
    (received : s.stepNo = 2 → ∀ r0 r1 rest,
      P (fin { s.take (.data [r0, r1]) rest with raw := assemble r0 r1 }).finish) :
    NextIs P (directRead op fin s) := by
  obtain ⟨h0, h⟩ | ⟨h1, h⟩ | ⟨h2, h⟩ | ⟨-, h⟩ := directRead_cases op fin s
  · exact h ▸ nextIs_next (accept h0)
  · exact h ▸ nextIs_onWrite hang fun ok rest _ => written h1 ok rest
  · exact h ▸ nextIs_onRead2 hang (received h2)
  · exact h ▸ nextIs_fault P _

/-- R112, R171: the two transitions of a single bus write. -/
theorem nextIs_singleWrite {r : Request} (hang : P s) (accept : s.stepNo = 0 → P (s.start r))
    (written : s.stepNo = 1 → ∀ ok rest, P ((s.take (.wrote ok) rest).noteNack 1 ok).finish) :
    NextIs P (singleWrite r s) := by
  obtain ⟨h0, h⟩ | ⟨h1, h⟩ | ⟨-, h⟩ := singleWrite_cases r s
  · exact h ▸ nextIs_next (accept h0)
  · exact h ▸ nextIs_onWrite hang fun ok rest _ => written h1 ok rest
  · exact h ▸ nextIs_fault P _

/-- R113: the three transitions of SUBRSP. -/
theorem nextIs_execSubrsp (hang : P s) (accept : s.stepNo = 0 → P (s.start frameRSP))
    (written : s.stepNo = 1 → ∀ ok rest, P (((s.take (.wrote ok) rest).noteNack 1 ok).issue 2 (busRead 2)))
    (received : s.stepNo = 2 → ∀ r0 r1 rest,
      P (({ s.take (.data [r0, r1]) rest with raw := assemble r0 r1 }).setResult
        ((assemble r0 r1).setWidth 32)).finish) :
    NextIs P (execSubrsp s) := by
  unfold execSubrsp
  split
  case h_1 h => exact nextIs_next (accept (BitVec.eq_of_toNat_eq h))
  case h_2 h => exact nextIs_onWrite hang fun ok rest _ => written (BitVec.eq_of_toNat_eq h) ok rest
  case h_3 h => exact nextIs_onRead2 hang (received (BitVec.eq_of_toNat_eq h))
  case h_4 => exact nextIs_fault P _

/-- R131: the four transitions of DMREAD. -/
theorem nextIs_execDmread {addr : Half} (hang : P s) (accept : s.stepNo = 0 → P (s.start (frameDMA addr)))
    (addressed : s.stepNo = 1 → ∀ ok rest, P (((s.take (.wrote ok) rest).noteNack 1 ok).issue 2 frameRSP))
    (selected : s.stepNo = 2 → ∀ ok rest, P (((s.take (.wrote ok) rest).noteNack 2 ok).issue 3 (busRead 1)))
    (received : s.stepNo = 3 → ∀ r0 rest,
      P (({ s.take (.data [r0]) rest with raw := r0.setWidth 16 }).setResult (r0.setWidth 32)).finish) :
    NextIs P (execDmread addr s) := by
  unfold execDmread
  split
  case h_1 h => exact nextIs_next (accept (BitVec.eq_of_toNat_eq h))
  case h_2 h => exact nextIs_onWrite hang fun ok rest _ => addressed (BitVec.eq_of_toNat_eq h) ok rest
  case h_3 h => exact nextIs_onWrite hang fun ok rest _ => selected (BitVec.eq_of_toNat_eq h) ok rest
  case h_4 h => exact nextIs_onRead1 hang (received (BitVec.eq_of_toNat_eq h))
  case h_5 => exact nextIs_fault P _

/-- R142: the transitions of ALLCELLV: acceptance, an odd step, an even step before the last, the last. -/
theorem nextIs_execAllcellv (hang : P s) (accept : s.stepNo = 0 → P (s.start (frameDC (cellOpcode 1))))
    (written : ∀ k, s.stepNo.toNat = k → k ≤ 32 → k % 2 = 1 → ∀ ok rest,
      P (((s.take (.wrote ok) rest).noteNack k ok).issue (k + 1) (busRead 2)))
    (received : ∀ k, s.stepNo.toNat = k → 0 < k → k < 32 → k % 2 = 0 → ∀ r0 r1 rest,
      P ((({ s.take (.data [r0, r1]) rest with raw := assemble r0 r1 }).setCell (k / 2)).issue (k + 1)
        (frameDC (cellOpcode (k / 2 + 1)))))
    (last : s.stepNo.toNat = 32 → ∀ r0 r1 rest,
      P (({ s.take (.data [r0, r1]) rest with raw := assemble r0 r1 }).setCell 16).finish) :
    NextIs P (execAllcellv s) := by
  unfold execAllcellv
  generalize hk : s.stepNo.toNat = k
  dsimp only
  split
  · next h0 => exact nextIs_next (accept (BitVec.eq_of_toNat_eq (by simp [hk, h0])))
  split
  · next h0 h32 =>
    split
    · next hodd => exact nextIs_onWrite hang fun ok rest _ => written k hk h32 hodd ok rest
    · next hodd =>
      refine nextIs_onRead2 hang fun r0 r1 rest => ?_
      split
      · next hlast => subst hlast; exact last hk r0 r1 rest
      · exact received k hk (by omega) (by omega) (by omega) r0 r1 rest
  · exact nextIs_fault P _

/-- R121, R122, R123 (a): the answer of an ENTER or EXIT write. -/
theorem nextIs_modeWrite {n : Nat} {settle : Request} (hang : P s)
    (wrote : ∀ ok rest,
      P ((({ s.take (.wrote ok) rest with mack := ok } : State).noteNack n ok).issue (n + 1) settle)) :
    NextIs P (modeWrite n settle s) :=
  nextIs_onWrite hang fun ok rest _ => wrote ok rest

/-- R125: the three transitions of CU_ENTER. -/
theorem nextIs_execCuEnter (hang : P s) (accept : s.stepNo = 0 → P (s.start frameEnter))
    (wrote : s.stepNo = 1 → ∀ ok rest,
      P ((({ s.take (.wrote ok) rest with mack := ok } : State).noteNack 1 ok).issue 2 settleEnter))
    (elapsed : s.stepNo = 2 → ∀ rest, s.inputs = .answer .delayOver :: rest →
      P ((s.take .delayOver rest).settle .entered).finish) :
    NextIs P (execCuEnter s) := by
  unfold execCuEnter
  split
  case h_1 h => exact nextIs_next (accept (BitVec.eq_of_toNat_eq h))
  case h_2 h => exact nextIs_modeWrite hang (wrote (BitVec.eq_of_toNat_eq h))
  case h_3 h => exact nextIs_onDelay hang (elapsed (BitVec.eq_of_toNat_eq h))
  case h_4 => exact nextIs_fault P _

/-- R126: the three transitions of CU_EXIT. -/
theorem nextIs_execCuExit (hang : P s) (accept : s.stepNo = 0 → P (s.start frameExit))
    (wrote : s.stepNo = 1 → ∀ ok rest,
      P ((({ s.take (.wrote ok) rest with mack := ok } : State).noteNack 1 ok).issue 2 settleExit))
    (elapsed : s.stepNo = 2 → ∀ rest, s.inputs = .answer .delayOver :: rest →
      P ((s.take .delayOver rest).settle .exited).finish) :
    NextIs P (execCuExit s) := by
  unfold execCuExit
  split
  case h_1 h => exact nextIs_next (accept (BitVec.eq_of_toNat_eq h))
  case h_2 h => exact nextIs_modeWrite hang (wrote (BitVec.eq_of_toNat_eq h))
  case h_3 h => exact nextIs_onDelay hang (elapsed (BitVec.eq_of_toNat_eq h))
  case h_4 => exact nextIs_fault P _

/-- R132, R134: the six rows of `dm_write_seq`, a refused ENTER or payload write skipping to the EXIT write. -/
theorem nextIs_dmWriteSeq {addr : Half} {val : Byte} {n k : Nat} {fin : State → State} (hang : P s)
    (enter : k = 0 → ∀ ok rest,
      P ((({ s.take (.wrote ok) rest with mack := ok } : State).noteNack n ok).issue (n + 1) settleEnter))
    (entered : k = 1 → s.mack = true → ∀ rest, s.inputs = .answer .delayOver :: rest →
      P (((s.take .delayOver rest).settle .entered).issue (n + 2) (frameDMW addr val)))
    (refused : k = 1 → s.mack = false → ∀ rest, P ((s.take .delayOver rest).issue (n + 4) frameExit))
    (payload : k = 2 → ∀ rest, P ((s.take (.wrote true) rest).issue (n + 3) (frameCKL (~~~s.acc))))
    (skipped : k = 2 → ∀ rest,
      P (((s.take (.wrote false) rest).noteNack (n + 2) false).issue (n + 4) frameExit))
    (commit : k = 3 → ∀ ok rest, P (((s.take (.wrote ok) rest).noteNack (n + 3) ok).issue (n + 4) frameExit))
    (exit : k = 4 → ∀ ok rest,
      P ((({ s.take (.wrote ok) rest with mack := ok } : State).noteNack (n + 4) ok).issue (n + 5) settleExit))
    (exited : k = 5 → ∀ rest, s.inputs = .answer .delayOver :: rest →
      P (fin ((s.take .delayOver rest).settle .exited))) :
    NextIs P (dmWriteSeq addr val n k fin s) := by
  unfold dmWriteSeq
  split
  · exact nextIs_modeWrite hang (enter rfl)
  · refine nextIs_onDelay hang fun rest hin => ?_
    cases hm : s.mack with
    | true => simpa [hm] using entered rfl hm rest hin
    | false => simpa [hm] using refused rfl hm rest
  · refine nextIs_onWrite hang fun ok rest _ => ?_
    cases ok with
    | true => exact payload rfl rest
    | false => exact skipped rfl rest
  · exact nextIs_onWrite hang fun ok rest _ => commit rfl ok rest
  · exact nextIs_modeWrite hang (exit rfl)
  · exact nextIs_onDelay hang (exited rfl)
  · exact nextIs_fault P _

end Awaiting

end Sys2Proof.Machine
end

section
/-! The acceptance of a command with interface events (R25, R132, R174), and what each command leaves unchanged (R22). -/

namespace Sys2Proof.Machine

/-- The closed form of the accumulator of a Data-Memory write (R133) is the fold of its five bytes. -/
theorem csumAcc_dmChecksum (addr : Half) (val : Byte) :
    csumAcc Config.devWr (dmChecksumTail addr val) = dmAcc addr val := by
  simp only [csumAcc, dmChecksumTail, List.foldl_cons, List.foldl_nil, csumFold, dmAcc, lo8, hi8, Config.devWr,
    Config.selCtrl]
  bv_omega

/-- What stands before the first event of a command: the accumulator of its first Data-Memory write, if it has one
(R132, R174). -/
def acceptLoad (i : Instr) (s : State) : State := (bracketAt i 1).elim s fun b => s.csumLoad b.1 b.2.1

/-- R25: the acceptance transition of a command with interface events. -/
theorem exec_accept {i : Instr} {s : State} (h0 : s.stepNo = 0) (hb : usesBus i = true) :
    ∃ r, eventAt i 1 = some r ∧ exec i s = .next ((acceptLoad i s).start r) := by
  have hn : s.stepNo.toNat = 0 := by simp [h0]
  cases i
  case csClr | csPush | csGet | decProt | decTemp | decFet => cases hb
  case direct | cellv | current | itemp | therm | prot | tempstat | ischg | isdsg =>
    exact ⟨_, rfl, directRead_accept h0⟩
  case subcmd | setfet => exact ⟨_, rfl, singleWrite_accept h0⟩
  case subrsp => exact ⟨_, rfl, by simp only [exec, execSubrsp, hn]; rfl⟩
  case dmread => exact ⟨_, rfl, by simp only [exec, execDmread, hn]; rfl⟩
  case cuEnter => exact ⟨_, rfl, by simp only [exec, execCuEnter, hn]; rfl⟩
  case cuExit => exact ⟨_, rfl, by simp only [exec, execCuExit, hn]; rfl⟩
  case allcellv => exact ⟨_, rfl, by simp only [exec, execAllcellv, hn]; rfl⟩
  case dmwrite => exact ⟨_, rfl, by simp [exec, execDmwrite, hn, acceptLoad, bracketAt]⟩
  case setcov => exact ⟨_, rfl, by simp [exec, execSetcov, hn, acceptLoad, bracketAt]⟩

/-- What fills CSUM before the first event changes nothing else. -/
theorem acceptLoad_eq (i : Instr) (s : State) :
    acceptLoad i s = { s with
      acc := (bracketAt i 1).elim s.acc fun b => dmAcc b.1 b.2.1, seeded := (bracketAt i 1).isSome || s.seeded } := by
  unfold acceptLoad
  cases bracketAt i 1 with
  | none => rfl
  | some b => simp only [Option.elim_some, State.csumLoad_eq, csumAcc_dmChecksum, Option.isSome_some, Bool.true_or]

/-- Settles O7: the acceptance transition is `State.start` after the filling of CSUM. -/
theorem acceptanceIssuesTheFirstEvent : Obligations.AcceptanceIssuesTheFirstEvent := by
  rintro i s ⟨-, h0⟩ hb
  obtain ⟨r, hr, hx⟩ := exec_accept h0 hb
  exact ⟨r, hr, by rw [hx, acceptLoad_eq]; rfl⟩

/-- What a command may not touch between two states (R22, column "written by"; R28, R31 to R34). -/
structure Frame (i : Instr) (s t : State) : Prop where
  result : writesResult i = false → t.result = s.result
  raw : writesRaw i = false → t.raw = s.raw
  csum : writesCsum i = false → t.acc = s.acc ∧ t.seeded = s.seeded
  mode : writesMode i = false → t.cuMode = s.cuMode ∧ t.mack = s.mack
  cells : i ≠ .allcellv → t.cells = s.cells
  protf : i ≠ .prot → (∀ b, i ≠ .decProt b) → t.protf = s.protf
  tempf : i ≠ .tempstat → (∀ b, i ≠ .decTemp b) → t.tempf = s.tempf
  fetf : i ≠ .ischg → i ≠ .isdsg → (∀ b, i ≠ .decFet b) → t.fetf = s.fetf
  kept : t.cmd = s.cmd ∧ t.port = s.port ∧ t.params = s.params ∧ t.late = s.late ∧ t.draws = s.draws

theorem Frame.refl (i : Instr) (s : State) : Frame i s s := by
  constructor <;> simp

theorem Frame.trans {i : Instr} {s t u : State} (h : Frame i s t) (g : Frame i t u) : Frame i s u where
  result hw := (g.result hw).trans (h.result hw)
  raw hw := (g.raw hw).trans (h.raw hw)
  csum hw := ⟨(g.csum hw).1.trans (h.csum hw).1, (g.csum hw).2.trans (h.csum hw).2⟩
  mode hw := ⟨(g.mode hw).1.trans (h.mode hw).1, (g.mode hw).2.trans (h.mode hw).2⟩
  cells hi := (g.cells hi).trans (h.cells hi)
  protf hi hd := (g.protf hi hd).trans (h.protf hi hd)
  tempf hi hd := (g.tempf hi hd).trans (h.tempf hi hd)
  fetf hc hd hb := (g.fetf hc hd hb).trans (h.fetf hc hd hb)
  kept := by
    obtain ⟨hcmd, hport, hparams, hlate, hdraws⟩ := h.kept
    rw [← hcmd, ← hport, ← hparams, ← hlate, ← hdraws]
    exact g.kept

theorem Frame.finish (i : Instr) (u : State) : Frame i u u.finish := by
  constructor <;> simp

theorem Frame.start (i : Instr) (u : State) (r : Request) : Frame i u (u.start r) := by
  constructor <;> simp

/-- A Direct Command read writes what its last row writes, and RAW. -/
theorem directRead_frame {i : Instr} {op : Byte} {fin : State → State} (s : State) (hraw : writesRaw i = true)
    (hfin : ∀ u, Frame i u (fin u)) : NextIs (Frame i s) (directRead op fin s) := by
  refine nextIs_directRead (Frame.refl i s) (fun _ => Frame.start i s _) (fun _ ok rest => ?_) fun _ r0 r1 rest => ?_
  · constructor <;> simp
  · have htake : Frame i s { s.take (.data [r0, r1]) rest with raw := assemble r0 r1 } := by
      constructor <;> simp [hraw]
    exact (htake.trans (hfin _)).trans (Frame.finish i _)

/-- A single bus write writes no register but STATUS. -/
theorem singleWrite_frame (i : Instr) (r : Request) (s : State) : NextIs (Frame i s) (singleWrite r s) := by
  refine nextIs_singleWrite (Frame.refl i s) (fun _ => Frame.start i s r) fun _ ok rest => ?_
  constructor <;> simp

/-- A Data-Memory write writes `mack`, `cu_mode` and what follows it. -/
theorem dmWriteSeq_frame {i : Instr} {fin : State → State} (addr : Half) (val : Byte) (n k : Nat) (s : State)
    (hmode : writesMode i = true) (hfin : ∀ u, Frame i u (fin u)) :
    NextIs (Frame i s) (dmWriteSeq addr val n k fin s) := by
  apply nextIs_dmWriteSeq (Frame.refl i s)
  case exited =>
    intro _ rest _
    have hsettle : Frame i s ((s.take .delayOver rest).settle .exited) := by
      constructor <;> simp [hmode]
    exact hsettle.trans (hfin _)
  all_goals
    intros
    constructor <;> simp [hmode]

theorem execSubrsp_frame (s : State) : NextIs (Frame .subrsp s) (execSubrsp s) := by
  apply nextIs_execSubrsp (Frame.refl _ s)
  all_goals
    intros
    constructor <;> simp [writesResult, writesRaw]

theorem execDmread_frame (addr : Half) (s : State) : NextIs (Frame (.dmread addr) s) (execDmread addr s) := by
  apply nextIs_execDmread (Frame.refl _ s)
  all_goals
    intros
    constructor <;> simp [writesResult, writesRaw]

theorem execAllcellv_frame (s : State) : NextIs (Frame .allcellv s) (execAllcellv s) := by
  apply nextIs_execAllcellv (Frame.refl _ s)
  all_goals
    intros
    constructor <;> simp [writesRaw]

theorem execCuEnter_frame (s : State) : NextIs (Frame .cuEnter s) (execCuEnter s) := by
  apply nextIs_execCuEnter (Frame.refl _ s)
  all_goals
    intros
    constructor <;> simp [writesMode]

theorem execCuExit_frame (s : State) : NextIs (Frame .cuExit s) (execCuExit s) := by
  apply nextIs_execCuExit (Frame.refl _ s)
  all_goals
    intros
    constructor <;> simp [writesMode]

theorem execDmwrite_frame (addr : Half) (val : Byte) (s : State) :
    NextIs (Frame (.dmwrite addr val) s) (execDmwrite addr val s) := by
  unfold execDmwrite
  split
  · refine nextIs_next (Frame.trans ?_ (Frame.start _ _ _))
    constructor <;> simp [writesCsum]
  · exact dmWriteSeq_frame addr val 1 _ s rfl (Frame.finish _)

theorem secondWrite_frame (mv ms : Half) (u : State) (d : Byte) : Frame (.setcov mv ms) u (u.secondWrite d) := by
  unfold State.secondWrite
  constructor <;> simp [writesCsum]

theorem execSetcov_frame (mv ms : Half) (s : State) : NextIs (Frame (.setcov mv ms) s) (execSetcov mv ms s) := by
  unfold execSetcov
  split
  · refine nextIs_next (Frame.trans ?_ (Frame.start _ _ _))
    constructor <;> simp [writesCsum]
  · split
    · exact dmWriteSeq_frame _ _ 1 _ s rfl fun u => secondWrite_frame mv ms u (covDelay ms)
    · exact dmWriteSeq_frame _ _ 7 _ s rfl (Frame.finish _)

/-- A command without interface events writes what stands between its acceptance and its `done` (R25). -/
theorem quiet_frame {i : Instr} {f : State → State} (s : State) (hf : Frame i s (f s.begin)) :
    NextIs (Frame i s) (.next (f s.begin).finish) :=
  nextIs_next (hf.trans (Frame.finish i _))

theorem execCsGet_frame (s : State) : NextIs (Frame .csGet s) (execCsGet s) := by
  refine nextIs_next ?_
  split
  · constructor <;> simp [writesResult]
  · constructor <;> simp

theorem setResult_frame {i : Instr} (hw : writesResult i = true) (u : State) (v : Word) :
    Frame i u (u.setResult v) := by
  constructor <;> simp [hw]

/-- R22, R28: every transition of every command keeps the frame of its command. -/
theorem exec_frame (i : Instr) (s : State) : NextIs (Frame i s) (exec i s) := by
  cases i with
  | csClr => refine quiet_frame (f := State.csumClear) s ?_; constructor <;> simp [writesCsum]
  | csPush b => refine quiet_frame (f := (·.csumPush b)) s ?_; constructor <;> simp [writesCsum]
  | csGet => exact execCsGet_frame s
  | direct b => exact directRead_frame s rfl fun u => setResult_frame rfl u _
  | subcmd h => exact singleWrite_frame _ _ s
  | subrsp => exact execSubrsp_frame s
  | dmread addr => exact execDmread_frame addr s
  | dmwrite addr val => exact execDmwrite_frame addr val s
  | cuEnter => exact execCuEnter_frame s
  | cuExit => exact execCuExit_frame s
  | cellv idx => exact directRead_frame s rfl fun u => setResult_frame rfl u _
  | allcellv => exact execAllcellv_frame s
  | current => exact directRead_frame s rfl fun u => setResult_frame rfl u _
  | itemp => exact directRead_frame s rfl fun u => setResult_frame rfl u _
  | therm ch => exact directRead_frame s rfl fun u => setResult_frame rfl u _
  | prot => refine directRead_frame s rfl fun u => ?_; constructor <;> simp [writesResult]
  | tempstat => refine directRead_frame s rfl fun u => ?_; constructor <;> simp [writesResult]
  | ischg => refine directRead_frame s rfl fun u => ?_; constructor <;> simp [writesResult]
  | isdsg => refine directRead_frame s rfl fun u => ?_; constructor <;> simp [writesResult]
  | decProt b => refine quiet_frame (f := (·.decodeProt b)) s ?_; constructor <;> simp [writesResult]
  | decTemp b => refine quiet_frame (f := (·.decodeTemp b)) s ?_; constructor <;> simp [writesResult]
  | decFet b =>
    refine quiet_frame (f := fun u => (u.decodeFet b).setResult ((decFet b).setWidth 32)) s ?_
    constructor <;> simp [writesResult]
  | setfet target state => exact singleWrite_frame _ _ s
  | setcov mv ms => exact execSetcov_frame mv ms s

/-- Settles O55: each command's transitions keep its frame. -/
theorem registersAreWrittenOnlyByTheirCommands : Obligations.RegistersAreWrittenOnlyByTheirCommands := by
  intro i s t h
  obtain ⟨result, raw, csum, mode, cells, protf, tempf, fetf, kept⟩ := exec_frame i s t h
  exact ⟨result, raw, csum, mode, cells, protf, tempf, fetf, kept⟩

end Sys2Proof.Machine
end

section
/-! What arrives from outside (R22, R25, R187, R190, R201): nothing but a Reset and the awaited answer moves a
register. -/

namespace Sys2Proof.Machine

/-- CCA itself is as it was; only what is outside it has gone on. -/
structure Unmoved (s t : State) : Prop where
  registers : SameRegisters s t
  pending : t.pending = s.pending
  params : t.params = s.params
  late : s.late = [] → t.late = []
  port : t.port = s.port ∨ ∃ w rest, s.inputs = .present w :: rest ∧ t.port = s.port ++ [w]

/-- An answer finds none of no abandoned requests (R201). -/
theorem dropLate_ne_nil {a : Answer} {late left : List Request} (h : dropLate a late = some left) : late ≠ [] := by
  rintro rfl
  cases h

/-- Whatever arrives and is not the awaited answer is a Reset or moves no register (R187, R190). -/
theorem arrival_other {s t : State} (h : s.arrival = .other t) :
    (∃ rest, s.inputs = .reset :: rest ∧ t = s.resetEvent rest) ∨ Unmoved s t := by
  unfold State.arrival at h
  split at h
  case h_1 => cases h; exact .inr ⟨by simp [SameRegisters], rfl, rfl, id, .inl rfl⟩
  case h_2 w rest hin => cases h; exact .inr ⟨by simp [SameRegisters], rfl, rfl, id, .inr ⟨w, rest, hin, rfl⟩⟩
  case h_3 rest hin => cases h; exact .inl ⟨rest, hin, rfl⟩
  case h_4 => cases h; exact .inr ⟨by simp [SameRegisters], rfl, rfl, fun hl => by simp [hl], .inl rfl⟩
  case h_5 => cases h; exact .inr ⟨by simp [SameRegisters], rfl, rfl, id, .inl rfl⟩
  case h_6 => cases h; exact .inr ⟨by simp [SameRegisters], rfl, rfl, id, .inl rfl⟩
  case h_7 a rest hin =>
    split at h
    · next late hlate =>
      cases h
      exact .inr ⟨by simp [SameRegisters], rfl, rfl, fun hl => absurd hl (dropLate_ne_nil hlate), .inl rfl⟩
    · split at h
      · cases h
      · cases h; exact .inr ⟨by simp [SameRegisters], rfl, rfl, id, .inl rfl⟩

/-- What it takes for an answer to be the awaited one (R187 (c), R192, R201). -/
theorem arrival_awaited_iff {s : State} :
    s.arrival = .awaited ↔ s.busy = true ∧ ∃ a rest, s.inputs = .answer a :: rest ∧ dropLate a s.late = none ∧
      ∃ r, s.pending = some r ∧ r.answeredBy a = true := by
  unfold State.arrival
  cases hin : s.inputs with
  | nil => simp
  | cons input rest =>
    cases input with
    | answer a =>
      cases hd : dropLate a s.late with
      | some late => simp [hd]
      | none => cases s.pending <;> simp [hd]
    | _ => simp

/-- Where a step that answers comes from: a word that is accepted and runs or is refused, the awaited answer, or something
else that arrives (R25, R187). -/
theorem step_next_cases {s t : State} (h : step s = .next t) :
    (∃ w rest, s.busy = false ∧ (wordUsesBus w && s.transportBlocked) = false ∧
      ((∃ i, decode w = some i ∧ exec i (s.latch w rest) = .next t) ∨ t = (s.latch w rest).raiseIllegal)) ∨
    (s.arrival = .awaited ∧ ∃ i, decode s.cmd = some i ∧ exec i s = .next t) ∨ s.arrival = .other t := by
  obtain ⟨w, u, hfetch, hrun⟩ | ⟨-, harrival, hrun⟩ | ⟨u, -, harrival, hu⟩ := step_cases s
  · obtain hnone | ⟨w', rest, hb, -, -, hfree, hlatched⟩ := fetch_cases s
    · simp [hnone] at hfetch
    obtain ⟨rfl, rfl⟩ : w' = w ∧ s.latch w' rest = u := by simpa [hlatched] using hfetch
    refine .inl ⟨w', rest, hb, hfree, ?_⟩
    obtain ⟨i, hd, hx⟩ | ⟨-, hx⟩ := hrun
    · exact .inl ⟨i, hd, hx ▸ h⟩
    · exact .inr (by simpa [hx] using h.symm)
  · obtain ⟨i, hd, hx⟩ | ⟨-, hx⟩ := hrun
    · exact .inr (.inl ⟨harrival, i, hd, hx ▸ h⟩)
    · simp [hx] at h
  · obtain rfl : u = t := by simpa [hu] using h
    exact .inr (.inr harrival)

/-- While a command runs no word is accepted (R25). -/
theorem step_busy_cases {s t : State} (hb : s.busy = true) (h : step s = .next t) :
    (s.arrival = .awaited ∧ ∃ i, decode s.cmd = some i ∧ exec i s = .next t) ∨ s.arrival = .other t := by
  obtain ⟨w, rest, hidle, -⟩ | hrest := step_next_cases h
  · simp [hb] at hidle
  · exact hrest

end Sys2Proof.Machine
end

section
/-! Every step keeps the invariant (R39, R127 (c), R133, R187): the invariant across one transition of a command, first
between the answer of one event and the next event, then row by row of the step tables. -/

namespace Sys2Proof.Machine

/-- A step number of six bits other than 0. -/
theorem ofNat_six_ne_zero {n : Nat} (h0 : 0 < n) (h64 : n < 64) : BitVec.ofNat 6 n ≠ 0 := by
  intro h
  have := congrArg BitVec.toNat h
  simp at this
  omega

/-- No step table has a row 0 (R24). -/
theorem eventAt_zero (i : Instr) : eventAt i 0 = none := by
  cases i <;> simp [eventAt, directOpcode, directEvent, bracketAt]

/-- Only the commands with interface events have rows (R25, R58). -/
theorem eventAt_quiet {i : Instr} (h : usesBus i = false) (k : Nat) : eventAt i k = none := by
  cases i
  case csClr | csPush | csGet | decProt | decTemp | decFet => rfl
  all_goals cases h

/-- Only the two commands with a Data-Memory write have brackets (R132, R174). -/
theorem bracketAt_eq_none {i : Instr} (h : writesCsum i = false) (k : Nat) : bracketAt i k = none := by
  cases i
  case csClr | csPush | dmwrite | setcov => cases h
  all_goals rfl

/-- What holds of CSUM and the shadow when step `n` of `i` is issued (R127 (c), R133). -/
def BracketReady (i : Instr) (n : Nat) (s : State) : Prop :=
  ∀ addr val row, bracketAt i n = some (addr, val, row) →
    s.seeded = true ∧ s.acc = csumAcc Config.devWr (dmChecksumTail addr val) ∧
      (row = 2 ∨ row = 3 → s.cuMode = .entered)

theorem bracketReady_of_not_writesCsum {i : Instr} (h : writesCsum i = false) (n : Nat) (s : State) :
    BracketReady i n s := by
  intro addr val row hrow
  rw [bracketAt_eq_none h] at hrow
  cases hrow

/-- A refusal is recorded as R39 (c) says. -/
theorem noteNack_nack_iff {s : State} {n : Nat} (ok : Bool) (h0 : 0 < n) (h64 : n < 64)
    (h : s.err = .busNack ↔ s.fstep ≠ 0) : (s.noteNack n ok).err = .busNack ↔ (s.noteNack n ok).fstep ≠ 0 := by
  cases ok with
  | true => exact h
  | false =>
    by_cases herr : s.err = .ok
    · simpa [State.noteNack_first s n herr] using ofNat_six_ne_zero h0 h64
    · rw [State.noteNack_later s n false herr]
      exact h

theorem noteNack_err_ne_illegal {s : State} (n : Nat) (ok : Bool) (h : s.err ≠ .illegal) :
    (s.noteNack n ok).err ≠ .illegal := by
  unfold State.noteNack
  split
  · exact h
  · split
    · simp
    · exact h

/-- What holds of the state in every step of a command, whichever row it is at. -/
structure Sound (s : State) : Prop where
  unseeded_clear : s.seeded = false → s.acc = 0
  nack_iff : s.err = .busNack ↔ s.fstep ≠ 0
  params_legal : s.params.legal = true

theorem Inv.sound {s : State} (h : Inv s) : Sound s := ⟨h.unseeded_clear, h.nack_iff, h.params_legal⟩

theorem Sound.finish_inv {s : State} (h : Sound s) (hp : s.pending = none) : Inv s.finish where
  idle_iff := by simp
  idle_quiet _ := by simpa using hp
  unseeded_clear := by simpa using h.unseeded_clear
  nack_iff := by simpa using h.nack_iff
  running hb := by simp at hb
  blocked_idle _ := by simp
  params_legal := by simpa using h.params_legal

/-- The command `i` runs, the event it awaited has been answered, and the next one is not yet issued. -/
structure Between (i : Instr) (s : State) : Prop extends Sound s where
  busy : s.busy = true
  answered : s.pending = none
  decodes : decode s.cmd = some i
  legal : s.err ≠ .illegal
  clear : s.late = []

/-- Issuing the event of step `n` as the step table gives it. -/
theorem Between.issue_inv {i : Instr} {s : State} {n : Nat} {r : Request} (h : Between i s) (h0 : 0 < n) (h64 : n < 64)
    (hr : eventAt i n = some r) (hbr : BracketReady i n s) : Inv (s.issue n r) where
  idle_iff := by simpa [h.busy] using ofNat_six_ne_zero h0 h64
  idle_quiet hb := by simp [h.busy] at hb
  unseeded_clear := by simpa using h.unseeded_clear
  nack_iff := by simpa using h.nack_iff
  running _ := by
    have hn : (s.issue n r).stepNo.toNat = n := by simpa using Nat.mod_eq_of_lt h64
    refine ⟨i, by simpa using h.decodes, by simp, ?_, by simpa using h.legal, ?_⟩
    · rw [hn, hr, State.issue_pending]
    · intro addr val row hrow
      simpa using hbr addr val row (hn ▸ hrow)
  blocked_idle hl := by simp [State.transportBlocked, h.clear] at hl
  params_legal := by simpa using h.params_legal

section Carried

variable {i : Instr} {s : State}

/-- A machine whose command is running as its step table says, after the answer it awaited. -/
theorem Inv.between (hs : Inv s) (hb : s.busy = true) (hd : decode s.cmd = some i) (a : Answer) (rest : List Input) :
    Between i (s.take a rest) where
  unseeded_clear := by simpa using hs.unseeded_clear
  nack_iff := by simpa using hs.nack_iff
  params_legal := by simpa using hs.params_legal
  busy := by simpa using hb
  answered := by simp
  decodes := by simpa using hd
  legal := by
    obtain ⟨-, -, -, -, hlegal, -⟩ := hs.running hb
    simpa using hlegal
  clear := by
    have hfree : s.transportBlocked = false := by
      by_contra hblocked
      simp [hs.blocked_idle (by simpa using hblocked)] at hb
    simpa [State.transportBlocked] using hfree

theorem Between.noteNack {n : Nat} (h : Between i s) (ok : Bool) (h0 : 0 < n) (h64 : n < 64) :
    Between i (s.noteNack n ok) where
  unseeded_clear := by simpa using h.unseeded_clear
  nack_iff := noteNack_nack_iff ok h0 h64 h.nack_iff
  params_legal := by simpa using h.params_legal
  busy := by simpa using h.busy
  answered := by simpa using h.answered
  decodes := by simpa using h.decodes
  legal := noteNack_err_ne_illegal n ok h.legal
  clear := by simpa using h.clear

theorem Between.setMack (h : Between i s) (ok : Bool) : Between i { s with mack := ok } := { h with }

theorem Between.setRaw (h : Between i s) (v : Half) : Between i { s with raw := v } := { h with }

theorem Between.setResult (h : Between i s) (v : Word) : Between i (s.setResult v) := { h with }

theorem Between.setCell (h : Between i s) (k : Nat) : Between i (s.setCell k) := { h with }

theorem Between.setFlags (h : Between i s) (p : BitVec 6) (t : BitVec 7) (f : BitVec 2) (v : Word) :
    Between i { s with protf := p, tempf := t, fetf := f, result := v } := { h with }

theorem Between.settle (h : Between i s) (m : CuMode) : Between i (s.settle m) := by
  unfold State.settle
  split
  · exact { h with }
  · exact h

theorem Between.csumLoad (h : Between i s) (addr : Half) (val : Byte) : Between i (s.csumLoad addr val) := by
  rw [State.csumLoad_eq]
  exact { h with unseeded_clear := fun hs => by cases hs }

theorem Between.finish_inv (h : Between i s) : Inv s.finish := h.toSound.finish_inv h.answered

/-- Issuing an event of a command that has no Data-Memory write. -/
theorem Between.issue_plain {n : Nat} {r : Request} (h : Between i s) (h0 : 0 < n) (h64 : n < 64)
    (hw : writesCsum i = false) (hr : eventAt i n = some r) : Inv (s.issue n r) :=
  h.issue_inv h0 h64 hr (bracketReady_of_not_writesCsum hw n s)

end Carried

/-! Acceptance (R25). -/

/-- A bus command that is accepted runs as its step table says, whatever the outcome of the one before it. -/
theorem Sound.start_inv {i : Instr} {s : State} {r : Request} (h : Sound s) (hp : s.pending = none)
    (hd : decode s.cmd = some i) (hl : s.late = []) (hr : eventAt i 1 = some r) (hbr : BracketReady i 1 s) :
    Inv (s.start r) := by
  have hbegun : Between i { s.begin with busy := true } :=
    { unseeded_clear := h.unseeded_clear
      nack_iff := by simp
      params_legal := h.params_legal
      busy := rfl
      answered := hp
      decodes := hd
      legal := by simp
      clear := hl }
  exact hbegun.issue_inv (by decide) (by decide) hr hbr

/-- The first row of a Data-Memory write is its ENTER. -/
theorem bracketAt_one_row {i : Instr} {addr : Half} {val : Byte} {row : Nat}
    (h : bracketAt i 1 = some (addr, val, row)) : row = 0 := by
  cases i
  case dmwrite | setcov =>
    simp only [bracketAt] at h
    cases h
    rfl
  all_goals cases h

/-- CSUM is ready for the Data-Memory write that a command begins with (R132, R174). -/
theorem acceptLoad_bracketReady (i : Instr) (s : State) : BracketReady i 1 (acceptLoad i s) := by
  intro addr val row hrow
  simp [acceptLoad, hrow, bracketAt_one_row hrow]

theorem Sound.acceptLoad {s : State} (h : Sound s) (i : Instr) : Sound (acceptLoad i s) := by
  unfold Machine.acceptLoad
  cases bracketAt i 1 with
  | none => exact h
  | some b => exact ⟨by simp, by simpa using h.nack_iff, by simpa using h.params_legal⟩

/-- The acceptance of a command with interface events keeps the invariant. -/
theorem accept_inv {i : Instr} {s : State} (hs : Inv s) (hb : s.busy = false) (hd : decode s.cmd = some i)
    (hu : usesBus i = true) (hl : s.late = []) : NextIs Inv (exec i s) := by
  obtain ⟨r, hr, hx⟩ := exec_accept (hs.idle_iff.1 hb) hu
  rw [hx]
  refine nextIs_next ((hs.sound.acceptLoad i).start_inv ?_ ?_ ?_ hr (acceptLoad_bracketReady i s))
  · simpa [acceptLoad_eq] using hs.idle_quiet hb
  · simpa [acceptLoad_eq] using hd
  · simpa [acceptLoad_eq] using hl

/-- A word or a command that is refused leaves an idle machine idle (R182). -/
theorem raiseIllegal_inv {s : State} (hs : Inv s) (hb : s.busy = false) : Inv s.raiseIllegal where
  idle_iff := by simpa using hs.idle_iff
  idle_quiet := by simpa using hs.idle_quiet
  unseeded_clear := by simpa using hs.unseeded_clear
  nack_iff := by simp
  running h := by simp [hb] at h
  blocked_idle _ := by simpa using hb
  params_legal := by simpa using hs.params_legal

/-- A command without interface events ends in its acceptance transition with the outcome OK (R25). -/
theorem quiet_inv {f : State → State} {s : State} (hp : (f s.begin).pending = none) (hf : Sound (f s.begin)) :
    NextIs Inv (.next (f s.begin).finish) :=
  nextIs_next (hf.finish_inv hp)

/-- The six commands without interface events keep the invariant of an idle machine. -/
theorem exec_quiet_inv {i : Instr} {s : State} (hs : Inv s) (hb : s.busy = false) (hu : usesBus i = false) :
    NextIs Inv (exec i s) := by
  have hp := hs.idle_quiet hb
  cases i with
  | csClr => exact quiet_inv (f := State.csumClear) hp ⟨by simp, by simp, hs.params_legal⟩
  | csPush b => exact quiet_inv (f := (·.csumPush b)) hp ⟨by simp, by simp, hs.params_legal⟩
  | csGet =>
    refine nextIs_next ?_
    split
    · exact Sound.finish_inv ⟨hs.unseeded_clear, by simp, hs.params_legal⟩ hp
    · exact raiseIllegal_inv hs hb
  | decProt b => exact quiet_inv (f := (·.decodeProt b)) hp ⟨hs.unseeded_clear, by simp, hs.params_legal⟩
  | decTemp b => exact quiet_inv (f := (·.decodeTemp b)) hp ⟨hs.unseeded_clear, by simp, hs.params_legal⟩
  | decFet b =>
    exact quiet_inv (f := fun u => (u.decodeFet b).setResult ((decFet b).setWidth 32)) hp
      ⟨hs.unseeded_clear, by simp, hs.params_legal⟩
  | _ => cases hu

/-! The rows of a running command. -/

section Running

variable {i : Instr} {s : State}

/-- A running command awaits a row of its step table (R24). -/
theorem Inv.stepNo_ne_zero (hs : Inv s) (hb : s.busy = true) : s.stepNo ≠ 0 := by
  intro h0
  rw [hs.idle_iff.2 h0] at hb
  cases hb

/-- A command without interface events never runs on (R25). -/
theorem Inv.usesBus_of_busy (hs : Inv s) (hb : s.busy = true) (hd : decode s.cmd = some i) : usesBus i = true := by
  by_contra hu
  obtain ⟨j, hj, hsome, hpending, -, -⟩ := hs.running hb
  obtain rfl : j = i := by simpa [hj] using hd
  rw [hpending, eventAt_quiet (by simpa using hu)] at hsome
  cases hsome

/-- CSUM and the shadow where a running Data-Memory write stands (R127 (c), R133). -/
theorem Inv.bracketReady (hs : Inv s) (hb : s.busy = true) (hd : decode s.cmd = some i) :
    BracketReady i s.stepNo.toNat s := by
  obtain ⟨j, hj, -, -, -, hbracket⟩ := hs.running hb
  obtain rfl : j = i := by simpa [hj] using hd
  exact hbracket

/-- The step table of the commands that are one Direct Command read (R110). -/
theorem eventAt_of_directOpcode {op : Byte} (h : directOpcode i = some op) (k : Nat) :
    eventAt i k = directEvent op k := by
  cases i
  case direct | cellv | current | itemp | therm | prot | tempstat | ischg | isdsg => cases h; rfl
  all_goals cases h

theorem writesCsum_of_directOpcode {op : Byte} (h : directOpcode i = some op) : writesCsum i = false := by
  cases i
  case direct | cellv | current | itemp | therm | prot | tempstat | ischg | isdsg => rfl
  all_goals cases h

variable (hs : Inv s) (hb : s.busy = true) (hd : decode s.cmd = some i)
include hs hb hd

theorem directRead_inv {op : Byte} {fin : State → State} (hop : directOpcode i = some op)
    (hfin : ∀ u, Between i u → Between i (fin u)) : NextIs Inv (directRead op fin s) := by
  refine nextIs_directRead hs (fun h0 => absurd h0 (hs.stepNo_ne_zero hb)) (fun _ ok rest => ?_) fun _ r0 r1 rest => ?_
  · exact ((hs.between hb hd _ rest).noteNack ok (by decide) (by decide)).issue_plain (by decide) (by decide)
      (writesCsum_of_directOpcode hop) (by rw [eventAt_of_directOpcode hop]; rfl)
  · exact (hfin _ ((hs.between hb hd _ rest).setRaw _)).finish_inv

theorem singleWrite_inv (r : Request) : NextIs Inv (singleWrite r s) := by
  refine nextIs_singleWrite hs (fun h0 => absurd h0 (hs.stepNo_ne_zero hb)) fun _ ok rest => ?_
  exact ((hs.between hb hd _ rest).noteNack ok (by decide) (by decide)).finish_inv

end Running

theorem execSubrsp_inv {s : State} (hs : Inv s) (hb : s.busy = true) (hd : decode s.cmd = some .subrsp) :
    NextIs Inv (execSubrsp s) := by
  refine nextIs_execSubrsp hs (fun h0 => absurd h0 (hs.stepNo_ne_zero hb)) (fun _ ok rest => ?_) fun _ r0 r1 rest => ?_
  · exact ((hs.between hb hd _ rest).noteNack ok (by decide) (by decide)).issue_plain (by decide) (by decide) rfl rfl
  · exact (((hs.between hb hd _ rest).setRaw _).setResult _).finish_inv

theorem execDmread_inv {addr : Half} {s : State} (hs : Inv s) (hb : s.busy = true)
    (hd : decode s.cmd = some (.dmread addr)) : NextIs Inv (execDmread addr s) := by
  refine nextIs_execDmread hs (fun h0 => absurd h0 (hs.stepNo_ne_zero hb)) (fun _ ok rest => ?_) (fun _ ok rest => ?_)
    fun _ r0 rest => ?_
  · exact ((hs.between hb hd _ rest).noteNack ok (by decide) (by decide)).issue_plain (by decide) (by decide) rfl rfl
  · exact ((hs.between hb hd _ rest).noteNack ok (by decide) (by decide)).issue_plain (by decide) (by decide) rfl rfl
  · exact (((hs.between hb hd _ rest).setRaw _).setResult _).finish_inv

theorem execAllcellv_inv {s : State} (hs : Inv s) (hb : s.busy = true) (hd : decode s.cmd = some .allcellv) :
    NextIs Inv (execAllcellv s) := by
  refine nextIs_execAllcellv hs (fun h0 => absurd h0 (hs.stepNo_ne_zero hb)) (fun k _ h32 hodd ok rest => ?_)
    (fun k _ h0 h32 heven r0 r1 rest => ?_) fun _ r0 r1 rest => ?_
  · have hev : eventAt .allcellv (k + 1) = some (busRead 2) := by
      simp only [eventAt]
      rw [if_pos (by omega), if_neg (by omega)]
    exact ((hs.between hb hd _ rest).noteNack ok (by omega) (by omega)).issue_plain (by omega) (by omega) rfl hev
  · have hev : eventAt .allcellv (k + 1) = some (frameDC (cellOpcode (k / 2 + 1))) := by
      simp only [eventAt]
      rw [if_pos (by omega), if_pos (by omega)]
      congr 3
      omega
    exact (((hs.between hb hd _ rest).setRaw _).setCell _).issue_plain (by omega) (by omega) rfl hev
  · exact (((hs.between hb hd _ rest).setRaw _).setCell _).finish_inv

theorem execCuEnter_inv {s : State} (hs : Inv s) (hb : s.busy = true) (hd : decode s.cmd = some .cuEnter) :
    NextIs Inv (execCuEnter s) := by
  refine nextIs_execCuEnter hs (fun h0 => absurd h0 (hs.stepNo_ne_zero hb)) (fun _ ok rest => ?_) fun _ rest _ => ?_
  · exact (((hs.between hb hd _ rest).setMack ok).noteNack ok (by decide) (by decide)).issue_plain (by decide)
      (by decide) rfl rfl
  · exact ((hs.between hb hd _ rest).settle _).finish_inv

theorem execCuExit_inv {s : State} (hs : Inv s) (hb : s.busy = true) (hd : decode s.cmd = some .cuExit) :
    NextIs Inv (execCuExit s) := by
  refine nextIs_execCuExit hs (fun h0 => absurd h0 (hs.stepNo_ne_zero hb)) (fun _ ok rest => ?_) fun _ rest _ => ?_
  · exact (((hs.between hb hd _ rest).setMack ok).noteNack ok (by decide) (by decide)).issue_plain (by decide)
      (by decide) rfl rfl
  · exact ((hs.between hb hd _ rest).settle _).finish_inv

/-! The Data-Memory write (R132 to R134). -/

/-- Steps `n` to `n + 5` of `i` are one Data-Memory write (R132). -/
structure Bracketed (i : Instr) (n : Nat) (addr : Half) (val : Byte) : Prop where
  pos : 0 < n
  small : n + 5 < 64
  row : ∀ j < 6, bracketAt i (n + j) = some (addr, val, j)
  event : ∀ k, eventAt i k = (bracketAt i k).bind fun b => bracketEvent b.1 b.2.1 b.2.2

theorem dmwrite_bracketed (addr : Half) (val : Byte) : Bracketed (.dmwrite addr val) 1 addr val where
  pos := by decide
  small := by decide
  row j hj := by simp only [bracketAt]; rw [if_pos (by omega)]; congr; omega
  event _ := rfl

theorem setcov_first_bracketed (mv ms : Half) :
    Bracketed (.setcov mv ms) 1 Config.dmCovThresh (covThresh mv) where
  pos := by decide
  small := by decide
  row j hj := by simp only [bracketAt]; rw [if_pos (by omega)]; congr; omega
  event _ := rfl

theorem setcov_second_bracketed (mv ms : Half) :
    Bracketed (.setcov mv ms) 7 Config.dmCovDelay (covDelay ms) where
  pos := by decide
  small := by decide
  row j hj := by simp only [bracketAt]; rw [if_neg (by omega), if_pos (by omega)]; congr; omega
  event _ := rfl

/-- CSUM holds the checksum of the Data-Memory write (R133). -/
def Loaded (addr : Half) (val : Byte) (s : State) : Prop :=
  s.seeded = true ∧ s.acc = csumAcc Config.devWr (dmChecksumTail addr val)

/-- Issuing row `j` of a Data-Memory write: CSUM is loaded, and a payload frame needs the shadow at ENTERED. -/
theorem Bracketed.issue_inv {i : Instr} {n j : Nat} {addr : Half} {val : Byte} {s : State} {r : Request}
    (hw : Bracketed i n addr val) (h : Between i s) (hl : Loaded addr val s) (hj : j < 6)
    (hr : bracketEvent addr val j = some r) (hm : j = 2 ∨ j = 3 → s.cuMode = .entered) : Inv (s.issue (n + j) r) := by
  have hpos := hw.pos
  have hsmall := hw.small
  refine h.issue_inv (by omega) (by omega) (by rw [hw.event, hw.row j hj]; exact hr) ?_
  intro addr' val' row hrow
  rw [hw.row j hj] at hrow
  cases hrow
  exact ⟨hl.1, hl.2, hm⟩

/-- Row `k` of a Data-Memory write keeps the invariant if what follows the write does. -/
theorem dmWriteSeq_inv {i : Instr} {n k : Nat} {addr : Half} {val : Byte} {s : State} {fin : State → State}
    (hw : Bracketed i n addr val) (hs : Inv s) (hb : s.busy = true) (hd : decode s.cmd = some i)
    (hk : s.stepNo.toNat = n + k) (hfin : ∀ u, Between i u → Inv (fin u)) :
    NextIs Inv (dmWriteSeq addr val n k fin s) := by
  by_cases hk6 : 6 ≤ k
  · rw [dmWriteSeq_no_row addr val n fin s hk6]
    exact nextIs_fault _ _
  have hbetween := hs.between hb hd
  have hpos := hw.pos
  have hsmall := hw.small
  obtain ⟨hseeded, hacc, hmode⟩ := hs.bracketReady hb hd addr val k (hk ▸ hw.row k (by omega))
  have hloaded : Loaded addr val s := ⟨hseeded, hacc⟩
  refine nextIs_dmWriteSeq hs ?enter ?entered ?refused ?payload ?skipped ?commit ?exit ?exited
  case enter =>
    intro _ ok rest
    exact hw.issue_inv (j := 1) (((hbetween _ rest).setMack ok).noteNack ok (by omega) (by omega))
      (by simpa [Loaded] using hloaded) (by decide) rfl (by simp)
  case entered =>
    intro _ hm rest _
    exact hw.issue_inv (j := 2) ((hbetween _ rest).settle _) (by simpa [Loaded] using hloaded) (by decide) rfl
      (by simp [State.settle_cuMode, hm])
  case refused =>
    intro _ _ rest
    exact hw.issue_inv (j := 4) (hbetween _ rest) (by simpa [Loaded] using hloaded) (by decide) rfl (by simp)
  case payload =>
    intro hk2 rest
    exact hw.issue_inv (j := 3) (hbetween _ rest) (by simpa [Loaded] using hloaded) (by decide)
      (by rw [hacc]; rfl) (by simpa [hk2] using hmode)
  case skipped =>
    intro _ rest
    exact hw.issue_inv (j := 4) ((hbetween _ rest).noteNack false (by omega) (by omega))
      (by simpa [Loaded] using hloaded) (by decide) rfl (by simp)
  case commit =>
    intro _ ok rest
    exact hw.issue_inv (j := 4) ((hbetween _ rest).noteNack ok (by omega) (by omega))
      (by simpa [Loaded] using hloaded) (by decide) rfl (by simp)
  case exit =>
    intro _ ok rest
    exact hw.issue_inv (j := 5) (((hbetween _ rest).setMack ok).noteNack ok (by omega) (by omega))
      (by simpa [Loaded] using hloaded) (by decide) rfl (by simp)
  case exited =>
    intro _ rest _
    exact hfin _ ((hbetween _ rest).settle _)

theorem execDmwrite_inv {addr : Half} {val : Byte} {s : State} (hs : Inv s) (hb : s.busy = true)
    (hd : decode s.cmd = some (.dmwrite addr val)) : NextIs Inv (execDmwrite addr val s) := by
  unfold execDmwrite
  split
  · next h0 => exact absurd (BitVec.eq_of_toNat_eq h0) (hs.stepNo_ne_zero hb)
  · next k hk =>
    exact dmWriteSeq_inv (dmwrite_bracketed addr val) hs hb hd (by omega) fun u hu => hu.finish_inv

/-- The ENTER of the second write of SETCOV, its checksum loaded (R174). -/
theorem secondWrite_inv {mv ms : Half} {u : State} (hu : Between (.setcov mv ms) u) :
    Inv (u.secondWrite (covDelay ms)) :=
  (setcov_second_bracketed mv ms).issue_inv (j := 0) (hu.csumLoad _ _) (by simp [Loaded]) (by decide) rfl (by simp)

theorem execSetcov_inv {mv ms : Half} {s : State} (hs : Inv s) (hb : s.busy = true)
    (hd : decode s.cmd = some (.setcov mv ms)) : NextIs Inv (execSetcov mv ms s) := by
  unfold execSetcov
  split
  · next h0 => exact absurd (BitVec.eq_of_toNat_eq h0) (hs.stepNo_ne_zero hb)
  · next k hk =>
    split
    · exact dmWriteSeq_inv (setcov_first_bracketed mv ms) hs hb hd (by omega) fun u hu => secondWrite_inv hu
    · exact dmWriteSeq_inv (setcov_second_bracketed mv ms) hs hb hd (by omega) fun u hu => hu.finish_inv

/-- The answer that a running command takes keeps the invariant. -/
theorem running_inv {i : Instr} {s : State} (hs : Inv s) (hb : s.busy = true) (hd : decode s.cmd = some i) :
    NextIs Inv (exec i s) := by
  have hu := hs.usesBus_of_busy hb hd
  cases i with
  | csClr | csPush | csGet | decProt | decTemp | decFet => cases hu
  | direct b => exact directRead_inv hs hb hd rfl fun u hu => hu.setResult _
  | subcmd h => exact singleWrite_inv hs hb hd _
  | subrsp => exact execSubrsp_inv hs hb hd
  | dmread addr => exact execDmread_inv hs hb hd
  | dmwrite addr val => exact execDmwrite_inv hs hb hd
  | cuEnter => exact execCuEnter_inv hs hb hd
  | cuExit => exact execCuExit_inv hs hb hd
  | cellv idx => exact directRead_inv hs hb hd rfl fun u hu => hu.setResult _
  | allcellv => exact execAllcellv_inv hs hb hd
  | current => exact directRead_inv hs hb hd rfl fun u hu => hu.setResult _
  | itemp => exact directRead_inv hs hb hd rfl fun u hu => hu.setResult _
  | therm ch => exact directRead_inv hs hb hd rfl fun u hu => hu.setResult _
  | prot => exact directRead_inv hs hb hd rfl fun u hu => hu.setFlags _ _ _ _
  | tempstat => exact directRead_inv hs hb hd rfl fun u hu => hu.setFlags _ _ _ _
  | ischg => exact directRead_inv hs hb hd rfl fun u hu => hu.setFlags _ _ _ _
  | isdsg => exact directRead_inv hs hb hd rfl fun u hu => hu.setFlags _ _ _ _
  | setfet target state => exact singleWrite_inv hs hb hd _
  | setcov mv ms => exact execSetcov_inv hs hb hd

/-! One step of the machine. -/

/-- Taking a word from the port keeps the invariant of an idle machine. -/
theorem latch_inv {s : State} (hs : Inv s) (hb : s.busy = false) (w : CmdWord) (rest : List CmdWord) :
    Inv (s.latch w rest) where
  idle_iff := by simpa using hs.idle_iff
  idle_quiet := by simpa using hs.idle_quiet
  unseeded_clear := by simpa using hs.unseeded_clear
  nack_iff := by simpa using hs.nack_iff
  running h := by simp [hb] at h
  blocked_idle _ := by simpa using hb
  params_legal := by simpa using hs.params_legal

/-- The first transition of an accepted word keeps the invariant. -/
theorem accepted_inv {i : Instr} {s : State} {w : CmdWord} (rest : List CmdWord) (hs : Inv s) (hb : s.busy = false)
    (hfree : (wordUsesBus w && s.transportBlocked) = false) (hd : decode w = some i) :
    NextIs Inv (exec i (s.latch w rest)) := by
  have hlatch := latch_inv hs hb w rest
  cases hu : usesBus i with
  | false => exact exec_quiet_inv hlatch (by simpa using hb) hu
  | true =>
    have hlate : s.late = [] := by simpa [wordUsesBus, hd, hu, State.transportBlocked] using hfree
    exact accept_inv hlatch (by simpa using hb) (by simpa using hd) hu (by simpa using hlate)

/-- Reset restores the invariant, whatever it abandons (R37, R200). -/
theorem resetEvent_inv {s : State} (rest : List Input) (h : s.params.legal = true) : Inv (s.resetEvent rest) where
  idle_iff := by simp [State.resetEvent, State.reset]
  idle_quiet _ := rfl
  unseeded_clear _ := rfl
  nack_iff := by simp [State.resetEvent, State.reset]
  running hb := by cases hb
  blocked_idle _ := rfl
  params_legal := h

/-- The invariant speaks of nothing but CCA itself. -/
theorem Unmoved.inv {s t : State} (h : Unmoved s t) (hs : Inv s) : Inv t := by
  obtain ⟨hbusy, hstep, hcmd, -, herr, hfstep, hacc, hseeded, hmode, -⟩ := h.registers
  exact
    { idle_iff := by rw [← hbusy, ← hstep]; exact hs.idle_iff
      idle_quiet := by rw [← hbusy, h.pending]; exact hs.idle_quiet
      unseeded_clear := by rw [← hseeded, ← hacc]; exact hs.unseeded_clear
      nack_iff := by rw [← herr, ← hfstep]; exact hs.nack_iff
      running := by
        unfold runningHolds bracketHolds
        rw [← hbusy, ← hcmd, ← hstep, ← herr, ← hseeded, ← hacc, ← hmode, h.pending]
        exact hs.running
      blocked_idle := by
        intro hblocked
        rw [← hbusy]
        refine hs.blocked_idle ?_
        by_contra hfree
        have hlate : s.late = [] := by simpa [State.transportBlocked] using hfree
        simp [State.transportBlocked, h.late hlate] at hblocked
      params_legal := by rw [h.params]; exact hs.params_legal }

/-- Settles O58, by the three things a step can be: an acceptance, the awaited answer, something else that arrives. -/
theorem everyStepKeepsTheInvariant : Obligations.EveryStepKeepsTheInvariant := by
  intro s t hs hstep
  obtain ⟨w, rest, hb, hfree, ⟨i, hd, hx⟩ | rfl⟩ | ⟨harrival, i, hd, hx⟩ | harrival := step_next_cases hstep
  · exact accepted_inv rest hs hb hfree hd t hx
  · exact raiseIllegal_inv (latch_inv hs hb w rest) (by simpa using hb)
  · exact running_inv hs (arrival_awaited_iff.1 harrival).1 hd t hx
  · obtain ⟨rest, -, rfl⟩ | hsame := arrival_other harrival
    · exact resetEvent_inv rest hs.params_legal
    · exact hsame.inv hs

end Sys2Proof.Machine
end

section
/-! One step of the machine, seen from outside: acceptance and refusal of a word, Reset, waiting, and the moments at which
the CUSM shadow moves (10_state.md R25, R28, R37; 60_exceptions.md R182, R187, R190). -/

namespace Sys2Proof.Machine

/-! Which of the three a step is. -/

section Which

variable {s : State}

theorem step_accept {w : CmdWord} {ws : List CmdWord} {i : Instr} (hf : s.fetch = some (w, s.latch w ws))
    (hd : decode w = some i) : step s = exec i (s.latch w ws) := by
  simp [step, hf, hd]

theorem step_refuse {w : CmdWord} {ws : List CmdWord} (hf : s.fetch = some (w, s.latch w ws)) (hd : decode w = none) :
    step s = .next (s.latch w ws).raiseIllegal := by
  simp [step, hf, hd]

theorem step_awaited {i : Instr} (hf : s.fetch = none) (ha : s.arrival = .awaited) (hd : decode s.cmd = some i) :
    step s = exec i s := by
  simp [step, hf, ha, hd]

theorem step_other {t : State} (hf : s.fetch = none) (ha : s.arrival = .other t) : step s = .next t := by
  simp [step, hf, ha]

theorem resetNext_eq_false (h : ¬ Claims.ResetNext s) : s.resetNext = false := by
  by_contra hr
  exact h (resetNext_iff.1 (by simpa using hr))

end Which

/-- Settles O6: the word is fetched, and the step is the first transition of its command. -/
theorem acceptedWordRunsItsCommand : Obligations.AcceptedWordRunsItsCommand := by
  intro s w ws i hb hreset hport hd hfree
  have hheld : (wordUsesBus w && s.transportBlocked) = false := by
    obtain hu | hl := hfree
    · simp [wordUsesBus, hd, hu]
    · simp [State.transportBlocked, hl]
  exact step_accept (fetch_accepts hb (resetNext_eq_false hreset) hport hheld) hd

/-- Settles O9: the word is fetched, decodes to nothing, and raises Illegal. -/
theorem illegalWordIsRefusedWhole : Obligations.IllegalWordIsRefusedWhole := by
  intro s w ws hb hreset hport hd
  have hheld : (wordUsesBus w && s.transportBlocked) = false := by simp [wordUsesBus, hd]
  rw [step_refuse (fetch_accepts hb (resetNext_eq_false hreset) hport hheld) hd]
  simp [State.raiseIllegal, State.latch]

/-- Settles O8: no word is fetched while busy, and the answer is the awaited one. -/
theorem answerRunsTheLatchedCommand : Obligations.AnswerRunsTheLatchedCommand := by
  intro s a rest r i hb hin hpending hfits hlate hd
  exact step_awaited (fetch_busy hb) (arrival_awaited_iff.2 ⟨hb, a, rest, hin, hlate, r, hpending, hfits⟩) hd

/-- Settles O12: no word is fetched before a Reset, and the Reset is what arrives. -/
theorem resetClearsEveryRegister : Obligations.ResetClearsEveryRegister := by
  intro s rest hin
  have harrival : s.arrival = .other (s.resetEvent rest) := by simp [State.arrival, hin]
  exact step_other (fetch_resetNext (resetNext_iff.2 ⟨rest, hin⟩)) harrival

/-- Settles O57: the first idle state, its parameters at the defaults of R9. -/
theorem invariantAtReset : Obligations.InvariantAtReset where
  idle_iff := by decide
  idle_quiet _ := rfl
  unseeded_clear _ := rfl
  nack_iff := by decide
  running hb := by cases hb
  blocked_idle _ := rfl
  params_legal := by decide

/-- Settles O10: neither a command nor what arrives takes a word from the port. -/
theorem busyTakesNoWord : Obligations.BusyTakesNoWord := by
  intro s t hb h
  obtain ⟨-, i, -, hx⟩ | harrival := step_busy_cases hb h
  · obtain ⟨-, hport, -⟩ := (exec_frame i s t hx).kept
    exact .inl hport
  · obtain ⟨rest, -, rfl⟩ | hsame := arrival_other harrival
    · exact .inl rfl
    · exact hsame.port

/-- Settles O11: only a Reset and the awaited answer move a register, and silence moves nothing. -/
theorem onlyAnswerOrResetEndsAWait : Obligations.OnlyAnswerOrResetEndsAWait := by
  refine ⟨fun s hb hin => step_other (fetch_busy hb) (by simp [State.arrival, hin]), fun s t hb h hmoved => ?_⟩
  obtain ⟨hawaited, -⟩ | harrival := step_busy_cases hb h
  · obtain ⟨-, a, rest, hin, -, r, hpending, hfits⟩ := arrival_awaited_iff.1 hawaited
    exact .inr ⟨a, rest, r, hin, hpending, hfits⟩
  · obtain ⟨rest, hin, -⟩ | hsame := arrival_other harrival
    · exact .inl ⟨rest, hin⟩
    · exact absurd hsame.registers hmoved

/-! The CUSM shadow (R28, R123). -/

/-- The settle delay after which the shadow takes a value (R121, R122). -/
def settleOf : CuMode → Request
  | .entered => settleEnter
  | .exited => settleExit

/-- If the shadow moves, then at the end of the settle delay of an acknowledged write, to the value of that delay. -/
def Settles (i : Instr) (s t : State) : Prop :=
  t.cuMode ≠ s.cuMode → s.mack = true ∧ (∃ rest, s.inputs = .answer .delayOver :: rest) ∧
    eventAt i s.stepNo.toNat = some (settleOf t.cuMode)

theorem Settles.of_same {i : Instr} {s t : State} (h : t.cuMode = s.cuMode) : Settles i s t :=
  fun hmoved => absurd h hmoved

theorem Settles.of_settle {i : Instr} {s t : State} {m : CuMode} {rest : List Input}
    (hin : s.inputs = .answer .delayOver :: rest) (hev : eventAt i s.stepNo.toNat = some (settleOf m))
    (ht : t.cuMode = (s.settle m).cuMode) : Settles i s t := by
  intro hmoved
  rw [ht, State.settle_cuMode] at hmoved ⊢
  cases hm : s.mack with
  | false => simp [hm] at hmoved
  | true => exact ⟨rfl, ⟨rest, hin⟩, by simpa [hm] using hev⟩

theorem dmWriteSeq_settles {i : Instr} {n k : Nat} {addr : Half} {val : Byte} {s : State} {fin : State → State}
    (hw : Bracketed i n addr val) (hk : s.stepNo.toNat = n + k) (hfin : ∀ u, (fin u).cuMode = u.cuMode) :
    NextIs (Settles i s) (dmWriteSeq addr val n k fin s) := by
  apply nextIs_dmWriteSeq (Settles.of_same rfl)
  case entered =>
    rintro rfl - rest hin
    exact .of_settle (m := .entered) hin (by rw [hk, hw.event, hw.row 1 (by decide)]; rfl) (by simp [State.settle_cuMode])
  case exited =>
    rintro rfl rest hin
    exact .of_settle (m := .exited) hin (by rw [hk, hw.event, hw.row 5 (by decide)]; rfl)
      (by simp [hfin, State.settle_cuMode])
  all_goals
    intros
    exact .of_same (by simp)

theorem execCuEnter_settles (s : State) : NextIs (Settles .cuEnter s) (execCuEnter s) := by
  apply nextIs_execCuEnter (Settles.of_same rfl)
  case elapsed =>
    intro h2 rest hin
    exact .of_settle (m := .entered) hin (by rw [h2]; rfl) (by simp [State.settle_cuMode])
  all_goals
    intros
    exact .of_same (by simp)

theorem execCuExit_settles (s : State) : NextIs (Settles .cuExit s) (execCuExit s) := by
  apply nextIs_execCuExit (Settles.of_same rfl)
  case elapsed =>
    intro h2 rest hin
    exact .of_settle (m := .exited) hin (by rw [h2]; rfl) (by simp [State.settle_cuMode])
  all_goals
    intros
    exact .of_same (by simp)

theorem execDmwrite_settles (addr : Half) (val : Byte) (s : State) :
    NextIs (Settles (.dmwrite addr val) s) (execDmwrite addr val s) := by
  unfold execDmwrite
  split
  · exact nextIs_next (.of_same (by simp))
  · exact dmWriteSeq_settles (dmwrite_bracketed addr val) (by omega) fun u => by simp

theorem execSetcov_settles (mv ms : Half) (s : State) : NextIs (Settles (.setcov mv ms) s) (execSetcov mv ms s) := by
  unfold execSetcov
  split
  · exact nextIs_next (.of_same (by simp))
  · split
    · exact dmWriteSeq_settles (setcov_first_bracketed mv ms) (by omega) fun u => by simp [State.secondWrite]
    · exact dmWriteSeq_settles (setcov_second_bracketed mv ms) (by omega) fun u => by simp

/-- R28: in every command the shadow moves only at the end of a settle delay. -/
theorem exec_settles (i : Instr) (s : State) : NextIs (Settles i s) (exec i s) := by
  cases hm : writesMode i with
  | false => exact fun t h => .of_same ((exec_frame i s t h).mode hm).1
  | true =>
    cases i with
    | cuEnter => exact execCuEnter_settles s
    | cuExit => exact execCuExit_settles s
    | dmwrite addr val => exact execDmwrite_settles addr val s
    | setcov mv ms => exact execSetcov_settles mv ms s
    | _ => cases hm

/-- An acceptance transition leaves the shadow as it is. -/
theorem exec_accept_cuMode {i : Instr} {s t : State} (h0 : s.stepNo = 0) (h : exec i s = .next t) :
    t.cuMode = s.cuMode := by
  by_contra hmoved
  obtain ⟨-, -, hev⟩ := exec_settles i s t h hmoved
  simp [h0, eventAt_zero] at hev

/-- R28, R24: a running command moves the shadow only when the outstanding request is the settle delay of its new
value. -/
theorem running_settles {i : Instr} {s t : State} (hs : Inv s) (hb : s.busy = true) (hd : decode s.cmd = some i)
    (hx : exec i s = .next t) (hmoved : t.cuMode ≠ s.cuMode) :
    s.mack = true ∧ (∃ rest, s.inputs = .answer .delayOver :: rest) ∧ s.pending = some (settleOf t.cuMode) := by
  obtain ⟨hmack, hin, hev⟩ := exec_settles i s t hx hmoved
  obtain ⟨j, hj, -, hpending, -, -⟩ := hs.running hb
  obtain rfl : j = i := by simpa [hj] using hd
  exact ⟨hmack, hin, hpending.trans hev⟩

/-- Settles O31: a Reset apart, only the awaited end of a settle delay moves the shadow. -/
theorem shadowChangesOnlyAtSettle : Obligations.ShadowChangesOnlyAtSettle := by
  intro s t hs hstep hmoved
  obtain ⟨w, rest, hb, -, ⟨i, -, hx⟩ | rfl⟩ | ⟨harrival, i, hd, hx⟩ | harrival := step_next_cases hstep
  · have hsame := exec_accept_cuMode (by simpa using hs.idle_iff.1 hb) hx
    exact absurd (by simpa using hsame) hmoved
  · exact absurd (by simp) hmoved
  · obtain ⟨hmack, hin, hpending⟩ := running_settles hs (arrival_awaited_iff.1 harrival).1 hd hx hmoved
    refine .inr ⟨hmack, hin, ?_⟩
    cases hmode : t.cuMode with
    | entered => exact .inl ⟨by rw [hpending, hmode]; rfl, rfl⟩
    | exited => exact .inr ⟨by rw [hpending, hmode]; rfl, rfl⟩
  · obtain ⟨rest, hin, rfl⟩ | hsame := arrival_other harrival
    · exact .inl ⟨⟨rest, hin⟩, rfl⟩
    · obtain ⟨-, -, -, -, -, -, -, -, hmode, -⟩ := hsame.registers
      exact absurd hmode.symm hmoved

end Sys2Proof.Machine
end

section
/-! The host register file, field by field (10_state.md R22, R23, R38, R39). -/

namespace Sys2Proof.Machine

/-! Fields of a word. -/

section Fields

variable {n : Nat} (v : BitVec n)

/-- A field read where it stands. -/
theorem extractLsb'_placed {lo : Nat} (h : lo + n ≤ 32) : (placed v lo).extractLsb' lo n = v := by
  refine BitVec.eq_of_getLsbD_eq fun i hi => ?_
  have hin : lo + i < 32 := by omega
  rw [BitVec.getLsbD_extractLsb', getLsbD_placed]
  simp only [hi, hin, Nat.not_lt.2 (Nat.le_add_right lo i), decide_true, decide_false, Bool.not_false, Bool.true_and,
    Nat.add_sub_cancel_left]

/-- A field read beside where it stands. -/
theorem extractLsb'_placed_beside {lo a len : Nat} (h : a + len ≤ lo ∨ lo + n ≤ a) :
    (placed v lo).extractLsb' a len = 0 := by
  refine BitVec.eq_of_getLsbD_eq fun i hi => ?_
  have hbeside : a + i < lo ∨ n ≤ a + i - lo := by omega
  obtain hlt | hge := hbeside
  · simp [getLsbD_placed, hlt]
  · simp [getLsbD_placed, BitVec.getLsbD_of_ge v _ hge]

/-- A field has no bit outside a mask that holds all of it. -/
theorem placed_and_not_mask {lo : Nat} {mask : Word} (h : ∀ j < n, mask.getLsbD (lo + j) = true) :
    placed v lo &&& ~~~mask = 0 := by
  refine BitVec.eq_of_getLsbD_eq fun i hi => ?_
  by_cases hin : lo ≤ i ∧ i - lo < n
  · have hmask := h (i - lo) hin.2
    rw [Nat.add_sub_cancel' hin.1] at hmask
    simp [hmask]
  · have hfield : i < lo ∨ n ≤ i - lo := by omega
    obtain hlt | hge := hfield
    · simp [getLsbD_placed, hlt]
    · simp [getLsbD_placed, BitVec.getLsbD_of_ge v _ hge]

theorem setWidth_and_not_mask {mask : Word} (h : ∀ j < n, mask.getLsbD j = true) : v.setWidth 32 &&& ~~~mask = 0 := by
  have hplaced : v.setWidth 32 = placed v 0 := by simp [placed]
  rw [hplaced]
  exact placed_and_not_mask v (by simpa using h)

theorem or_and_not_mask {x y mask : Word} (hx : x &&& ~~~mask = 0) (hy : y &&& ~~~mask = 0) :
    (x ||| y) &&& ~~~mask = 0 := by
  rw [BitVec.and_comm, BitVec.and_or_distrib_left, BitVec.and_comm _ x, BitVec.and_comm _ y, hx, hy]
  rfl

end Fields

/-! STATUS and CSUM (R22, R23). -/

section Words

variable (s : State)

/-- The one-bit fields of STATUS (R23). -/
theorem statusWord_bits : s.statusWord.getLsbD 0 = s.busy ∧ s.statusWord.getLsbD 4 = s.seeded := by
  simp only [State.statusWord, BitVec.getLsbD_or, getLsbD_placed]
  constructor <;> simp

/-- The wider fields of STATUS and its reserved bits (R23). -/
theorem statusWord_fields :
    s.statusWord.extractLsb' 1 2 = s.err.code ∧ s.statusWord.extractLsb' 3 1 = s.cuMode.code ∧
      s.statusWord.extractLsb' 5 3 = 0 ∧ s.statusWord.extractLsb' 8 6 = s.fstep ∧
      s.statusWord.extractLsb' 14 18 = 0 := by
  simp [State.statusWord, BitVec.extractLsb'_or, extractLsb'_placed, extractLsb'_placed_beside]

/-- The bit that shows the shadow (R23). -/
theorem statusWord_mode : s.statusWord.getLsbD 3 = true ↔ s.cuMode = .entered := by
  have hbit : s.statusWord.getLsbD 3 = s.cuMode.code.getLsbD 0 := by
    simp only [State.statusWord, BitVec.getLsbD_or, getLsbD_placed]
    simp
  rw [hbit]
  cases s.cuMode <;> decide

/-- CSUM shows `acc`, its complement and `seeded` (R22). -/
theorem csumWord_fields :
    s.csumWord.extractLsb' 0 8 = s.acc ∧ s.csumWord.extractLsb' 8 8 = ~~~s.acc ∧
      s.csumWord.extractLsb' 17 15 = 0 := by
  simp [State.csumWord, BitVec.extractLsb'_or, extractLsb'_placed, extractLsb'_placed_beside]

theorem csumWord_seeded : s.csumWord.getLsbD 16 = s.seeded := by
  simp only [State.csumWord, BitVec.getLsbD_or, getLsbD_placed]
  simp

theorem statusWord_and_not_mask : s.statusWord &&& ~~~(0x3F1F : Word) = 0 :=
  or_and_not_mask (or_and_not_mask (or_and_not_mask (or_and_not_mask (placed_and_not_mask _ (by decide))
    (placed_and_not_mask _ (by decide))) (placed_and_not_mask _ (by decide))) (placed_and_not_mask _ (by decide)))
    (placed_and_not_mask _ (by decide))

theorem csumWord_and_not_mask : s.csumWord &&& ~~~(0x1FFFF : Word) = 0 :=
  or_and_not_mask (or_and_not_mask (placed_and_not_mask _ (by decide)) (placed_and_not_mask _ (by decide)))
    (placed_and_not_mask _ (by decide))

/-! The other registers (R22). -/

/-- Registers 7 to 15 are reserved. -/
theorem register_reserved {n : RegNo} (h7 : 7 ≤ n.toNat) (h15 : n.toNat ≤ 15) : s.register n = 0 := by
  unfold State.register
  split
  case h_8 => exact if_neg (by omega)
  all_goals omega

/-- Registers 16 to 31 are the cells. -/
theorem register_cell {n : RegNo} (h16 : 16 ≤ n.toNat) :
    s.register n = (s.cells.toList.getD (n.toNat - 16) 0).setWidth 32 := by
  unfold State.register
  split
  case h_8 => exact if_pos h16
  all_goals omega

end Words

/-- The used bits of the model are those of R22 and R23. -/
theorem usedBits_eq_usedMask : ∀ n : RegNo, usedBits n = Claims.usedMask n := by decide

/-- Bits that are not used read as zero when idle (R39 (f)). -/
theorem register_and_not_usedBits (s : State) (n : RegNo) : s.register n &&& ~~~usedBits n = 0 := by
  unfold State.register usedBits
  split
  case h_1 => exact statusWord_and_not_mask s
  case h_2 => simp
  case h_3 => exact setWidth_and_not_mask _ (by decide)
  case h_4 => exact csumWord_and_not_mask s
  case h_5 => exact setWidth_and_not_mask _ (by decide)
  case h_6 => exact setWidth_and_not_mask _ (by decide)
  case h_7 => exact setWidth_and_not_mask _ (by decide)
  case h_8 =>
    by_cases h16 : 16 ≤ n.toNat
    · simp only [h16, if_true]
      exact setWidth_and_not_mask _ (by decide)
    · simp [h16]

/-- Bits that are not used read as zero while busy too (log entry 8). -/
theorem hostRead_and_not_usedBits (s : State) (n : RegNo) : s.hostRead n &&& ~~~usedBits n = 0 := by
  unfold State.hostRead
  split
  · have hfree (v : Word) : v &&& usedBits n &&& ~~~usedBits n = 0 := by
      rw [BitVec.and_assoc]
      simp
    dsimp only
    split
    · next h0 => subst h0; exact or_and_not_mask (hfree _) (by decide)
    · exact hfree _
  · exact register_and_not_usedBits s n

/-- STATUS shows the true `busy` at every moment (R38). -/
theorem hostRead_status_busy (s : State) : (s.hostRead 0).getLsbD 0 = s.busy := by
  unfold State.hostRead
  cases hb : s.busy with
  | true => simp
  | false => exact (statusWord_bits s).1.trans hb

/-- Settles O16: what arrives is the host's read, and its value has only used bits. -/
theorem hostReadHasNoSideEffect : Obligations.HostReadHasNoSideEffect := by
  intro s n rest hf hin
  have harrival : s.arrival = .other (s.readPort n rest) := by simp [State.arrival, hin]
  refine ⟨s.readPort n rest, s.hostRead n, step_other hf harrival, by simp [SameRegisters], rfl, rfl, rfl, rfl, rfl,
    rfl, fun hb => by simp [State.hostRead, hb], ?_, ?_⟩
  · rintro rfl
    exact hostRead_status_busy s
  · rw [← usedBits_eq_usedMask]
    exact hostRead_and_not_usedBits s n

/-- Settles O13: every register of the reset state, read. -/
theorem registersReadAfterReset : Obligations.RegistersReadAfterReset := by
  unfold Obligations.RegistersReadAfterReset
  exact ⟨by decide, by decide, by decide, rfl, rfl, rfl, rfl⟩

/-- The codes of `err`; code 3 is none of them (R23, R180). -/
theorem err_code_ne_three (e : Err) : e.code ≠ 3 := by cases e <;> decide

/-- A cell, read through its register (R22). -/
theorem register_cell_toNat (s : State) (i : Fin 16) :
    (s.register (BitVec.ofNat 5 (16 + i))).toNat = (s.cells[i]).toNat := by
  have hn : (BitVec.ofNat 5 (16 + i)).toNat = 16 + i := by
    rw [BitVec.toNat_ofNat]
    omega
  rw [register_cell s (by omega), hn, Nat.add_sub_cancel_left, BitVec.toNat_setWidth_of_le (by decide)]
  simp

/-- Settles O17: STATUS and CSUM by their fields, the other registers by their case of the register file. -/
theorem registerFileLayout : Obligations.RegisterFileLayout := by
  intro s
  obtain ⟨hbusy, hseeded⟩ := statusWord_bits s
  obtain ⟨herr, -, hlow, hfstep, hhigh⟩ := statusWord_fields s
  obtain ⟨hacc, hck, hzero⟩ := csumWord_fields s
  refine ⟨⟨hbusy, ?_, ?_, ?_, herr ▸ err_code_ne_three s.err, statusWord_mode s, hseeded, hlow, hfstep, hhigh⟩,
    ⟨hacc, hck, csumWord_seeded s, hzero⟩, ⟨rfl, ?_, ?_, ?_, ?_⟩, fun n h7 h15 => register_reserved s h7 h15,
    register_cell_toNat s⟩
  · exact fun h => herr.trans (by rw [h]; rfl)
  · exact fun h => herr.trans (by rw [h]; rfl)
  · exact fun h => herr.trans (by rw [h]; rfl)
  · exact BitVec.toNat_setWidth_of_le (by decide)
  · exact BitVec.toNat_setWidth_of_le (by decide)
  · exact BitVec.toNat_setWidth_of_le (by decide)
  · exact BitVec.toNat_setWidth_of_le (by decide)

end Sys2Proof.Machine
end

section
/-! The command word and its command (30_encoding.md R80 to R85): each format reads exactly the operands that are placed
where R81 says, so a word decodes to a command exactly when it is the command's word and the command is well formed. -/

namespace Sys2Proof

open Machine

/-! Fields of an operand word. -/

section Operand

variable {x : Word} {n m : Nat}

/-- A field is its low part beside its high part. -/
theorem placed_extractLsb'_or (x : Word) (a n m : Nat) :
    placed (x.extractLsb' a n) a ||| placed (x.extractLsb' (a + n) m) (a + n) = placed (x.extractLsb' a (n + m)) a := by
  refine BitVec.eq_of_getLsbD_eq fun i hi => ?_
  simp only [BitVec.getLsbD_or, getLsbD_placed, BitVec.getLsbD_extractLsb', hi]
  obtain hlow | hmid | hhigh : i < a ∨ (a ≤ i ∧ i < a + n) ∨ a + n ≤ i := by omega
  · simp [hlow, Nat.lt_add_right n hlow]
  · have hin : i - a < n ∧ i - a < n + m := by omega
    simp [hmid.2, hin]
  · have hout : ¬ i - a < n := by omega
    have hsame : i - a < n + m ↔ i - (a + n) < m := by omega
    have ha : a ≤ i := by omega
    simp [hout, hsame, hhigh, ha, Nat.not_lt.2 ha, Nat.not_lt.2 hhigh]

/-- An operand word is its low field when the bits above it are zero. -/
theorem eq_placed_of_high_zero (hnm : n + m = 32) (hz : x.extractLsb' n m = 0) : x = placed (x.extractLsb' 0 n) 0 := by
  have hsplit := placed_extractLsb'_or x 0 n m
  rw [Nat.zero_add, hz, hnm, BitVec.extractLsb'_eq_self] at hsplit
  simpa [placed] using hsplit.symm

/-- An operand word with one field, at the bottom. -/
theorem low_field_iff (hnm : n + m = 32) {p : BitVec n → Prop} :
    (x.extractLsb' n m = 0 ∧ p (x.extractLsb' 0 n)) ↔ ∃ v, x = placed v 0 ∧ p v := by
  constructor
  · rintro ⟨hz, hp⟩
    exact ⟨_, eq_placed_of_high_zero hnm hz, hp⟩
  · rintro ⟨v, rfl, hp⟩
    rw [extractLsb'_placed v (by omega)]
    exact ⟨extractLsb'_placed_beside v (by omega), hp⟩

/-- An operand word with two fields, one above the other. -/
theorem two_fields_iff {k : Nat} (hnkm : n + k + m = 32) {p : BitVec n → BitVec k → Prop} :
    (x.extractLsb' (n + k) m = 0 ∧ p (x.extractLsb' 0 n) (x.extractLsb' n k)) ↔
      ∃ u v, x = placed u 0 ||| placed v n ∧ p u v := by
  constructor
  · rintro ⟨hz, hp⟩
    refine ⟨_, _, ?_, hp⟩
    have hsplit := placed_extractLsb'_or x 0 n k
    rw [Nat.zero_add] at hsplit
    exact (eq_placed_of_high_zero hnkm hz).trans hsplit.symm
  · rintro ⟨u, v, rfl, hp⟩
    simp only [BitVec.extractLsb'_or]
    rw [extractLsb'_placed u (by omega), extractLsb'_placed v (by omega), extractLsb'_placed_beside u (by omega),
      extractLsb'_placed_beside u (by omega), extractLsb'_placed_beside v (by omega),
      extractLsb'_placed_beside v (by omega)]
    simpa using hp

end Operand

/-! The formats (R81): what each reads, and from which operand word. -/

section Formats

variable {x : Word} {j : Instr}

theorem formatN_eq_some {i : Instr} : formatN x i = some j ↔ x = 0 ∧ i = j := by
  simp [formatN]

theorem formatB_eq_some {f : Byte → Instr} : formatB x f = some j ↔ ∃ b, x = placed b 0 ∧ f b = j := by
  simp only [formatB, Option.ite_none_right_eq_some, Option.some.injEq]
  exact low_field_iff (p := (f · = j)) rfl

theorem formatH_eq_some {f : Half → Instr} : formatH x f = some j ↔ ∃ h, x = placed h 0 ∧ f h = j := by
  simp only [formatH, Option.ite_none_right_eq_some, Option.some.injEq]
  exact low_field_iff (p := (f · = j)) rfl

theorem formatI_eq_some {f : BitVec 5 → Instr} : formatI x f = some j ↔ ∃ idx, x = placed idx 0 ∧ f idx = j := by
  simp only [formatI, Option.ite_none_right_eq_some, Option.some.injEq]
  exact low_field_iff (p := (f · = j)) rfl

theorem formatAV_eq_some {f : Half → Byte → Instr} :
    formatAV x f = some j ↔ ∃ addr val, x = placed addr 0 ||| placed val 16 ∧ f addr val = j := by
  simp only [formatAV, Option.ite_none_right_eq_some, Option.some.injEq]
  exact two_fields_iff (p := (f · · = j)) rfl

theorem formatM_eq_some {f : Half → Half → Instr} :
    formatM x f = some j ↔ ∃ mv ms, x = placed mv 0 ||| placed ms 16 ∧ f mv ms = j := by
  rw [← two_fields_iff (m := 0) (p := (f · · = j)) rfl]
  have hz : x.extractLsb' (16 + 16) 0 = 0 := BitVec.of_length_zero
  simp only [hz, true_and, formatM, Option.some.injEq]

/-- The channels by their codes (R82). -/
theorem thermistorOf_eq_some {c : BitVec 3} {ch : Thermistor} : thermistorOf c = some ch ↔ c = ch.code := by
  cases ch <;> revert c <;> decide

/-- The targets by their codes (R82). -/
theorem fetTargetOf_eq_some {c : BitVec 2} {target : FetTarget} : fetTargetOf c = some target ↔ c = target.code := by
  cases target <;> revert c <;> decide

/-- The states by their codes (R82). -/
theorem fetStateOf_eq_iff {b : BitVec 1} {state : FetState} : fetStateOf (b.getLsbD 0) = state ↔ b = state.code := by
  cases state <;> revert b <;> decide

theorem formatC_eq_some {f : Thermistor → Instr} :
    formatC x f = some j ↔ ∃ ch : Thermistor, x = placed ch.code 0 ∧ f ch = j := by
  simp only [formatC, Option.ite_none_right_eq_some, Option.map_eq_some_iff, thermistorOf_eq_some]
  rw [low_field_iff (p := fun c => ∃ ch : Thermistor, c = ch.code ∧ f ch = j) rfl]
  constructor
  · rintro ⟨_, rfl, ch, rfl, hf⟩
    exact ⟨ch, rfl, hf⟩
  · rintro ⟨ch, rfl, hf⟩
    exact ⟨_, rfl, ch, rfl, hf⟩

theorem formatF_eq_some {f : FetTarget → FetState → Instr} :
    formatF x f = some j ↔
      ∃ (target : FetTarget) (state : FetState),
        x = placed target.code 0 ||| placed state.code 2 ∧ f target state = j := by
  have hstate : x.getLsbD 2 = (x.extractLsb' 2 1).getLsbD 0 := by simp
  simp only [formatF, Option.ite_none_right_eq_some, Option.map_eq_some_iff, fetTargetOf_eq_some, hstate]
  rw [two_fields_iff (n := 2) (k := 1)
    (p := fun t b => ∃ target : FetTarget, t = target.code ∧ f target (fetStateOf (b.getLsbD 0)) = j) rfl]
  constructor
  · rintro ⟨_, b, rfl, target, rfl, hf⟩
    exact ⟨target, _, by rw [← fetStateOf_eq_iff.1 rfl], hf⟩
  · rintro ⟨target, state, rfl, hf⟩
    exact ⟨_, state.code, rfl, target, rfl, by rwa [fetStateOf_eq_iff.2 rfl]⟩

end Formats

/-! The word of a command (R81, R83). -/

/-- A word is its opcode above its operand. -/
theorem opcodeOf_append_operandOf (w : CmdWord) : opcodeOf w ++ operandOf w = w :=
  (BitVec.extractLsb'_append_extractLsb'_eq_extractLsb' (len₁ := 32) rfl).trans BitVec.extractLsb'_eq_self

/-- A command's word is the one with its opcode and its operand. -/
theorem encode_eq_iff {i : Instr} {w : CmdWord} :
    encode i = w ↔ opcodeOf w = i.opcode ∧ operandOf w = i.operand := by
  constructor
  · rintro rfl
    exact Laws.Row.of_append _ _
  · rintro ⟨hop, hx⟩
    rw [encode, ← hop, ← hx, opcodeOf_append_operandOf]

/-- The operand is read by the format of the opcode, every field of it (R81, R83). -/
theorem decodeFields_encode (i : Instr) : decodeFields (encode i) = some i := by
  obtain ⟨hop, hx⟩ := encode_eq_iff.1 (rfl : encode i = encode i)
  rw [decodeFields, hop, hx]
  cases i with
  | csClr | csGet | subrsp | cuEnter | cuExit | allcellv | current | itemp | prot | tempstat | ischg | isdsg =>
    exact formatN_eq_some.2 ⟨rfl, rfl⟩
  | csPush b | direct b | decProt b | decTemp b | decFet b => exact formatB_eq_some.2 ⟨b, rfl, rfl⟩
  | subcmd h | dmread h => exact formatH_eq_some.2 ⟨h, rfl, rfl⟩
  | dmwrite addr val => exact formatAV_eq_some.2 ⟨addr, val, rfl, rfl⟩
  | cellv idx => exact formatI_eq_some.2 ⟨idx, rfl, rfl⟩
  | therm ch => exact formatC_eq_some.2 ⟨ch, rfl, rfl⟩
  | setfet target state => exact formatF_eq_some.2 ⟨target, state, rfl, rfl⟩
  | setcov mv ms => exact formatM_eq_some.2 ⟨mv, ms, rfl, rfl⟩

/-- What the formats read is the whole operand, every must-be-zero bit included (R81, R83). -/
theorem decodeFields_eq_some {w : CmdWord} {i : Instr} : decodeFields w = some i ↔ encode i = w := by
  refine ⟨fun h => encode_eq_iff.2 ?_, fun h => h ▸ decodeFields_encode i⟩
  unfold decodeFields at h
  split at h
  case h_1 | h_3 | h_6 | h_9 | h_10 | h_12 | h_13 | h_14 | h_16 | h_17 | h_18 | h_19 =>
    next hop =>
    obtain ⟨hx, rfl⟩ := formatN_eq_some.1 h
    exact ⟨BitVec.eq_of_toNat_eq hop, hx⟩
  case h_2 | h_4 | h_20 | h_21 | h_22 =>
    next hop =>
    obtain ⟨b, hx, rfl⟩ := formatB_eq_some.1 h
    exact ⟨BitVec.eq_of_toNat_eq hop, hx⟩
  case h_5 | h_7 =>
    next hop =>
    obtain ⟨half, hx, rfl⟩ := formatH_eq_some.1 h
    exact ⟨BitVec.eq_of_toNat_eq hop, hx⟩
  case h_8 hop =>
    obtain ⟨addr, val, hx, rfl⟩ := formatAV_eq_some.1 h
    exact ⟨BitVec.eq_of_toNat_eq hop, hx⟩
  case h_11 hop =>
    obtain ⟨idx, hx, rfl⟩ := formatI_eq_some.1 h
    exact ⟨BitVec.eq_of_toNat_eq hop, hx⟩
  case h_15 hop =>
    obtain ⟨ch, hx, rfl⟩ := formatC_eq_some.1 h
    exact ⟨BitVec.eq_of_toNat_eq hop, hx⟩
  case h_23 hop =>
    obtain ⟨target, state, hx, rfl⟩ := formatF_eq_some.1 h
    exact ⟨BitVec.eq_of_toNat_eq hop, hx⟩
  case h_24 hop =>
    obtain ⟨mv, ms, hx, rfl⟩ := formatM_eq_some.1 h
    exact ⟨BitVec.eq_of_toNat_eq hop, hx⟩
  case h_25 => cases h

/-- R84: the legal words are the words of the well-formed commands, one word each. -/
theorem decode_eq_some {w : CmdWord} {i : Instr} : decode w = some i ↔ encode i = w ∧ i.wf = true := by
  rw [decode, Option.filter_eq_some_iff, decodeFields_eq_some]

/-- Settles O1: the formats read every operand as it is placed, and the command is well formed. -/
theorem decodeOfEncodeIsTheCommand : Obligations.DecodeOfEncodeIsTheCommand :=
  fun _ hwf => decode_eq_some.2 ⟨rfl, hwf⟩

/-- Settles O2: what decodes is a command's word. -/
theorem encodeOfDecodeIsTheWord : Obligations.EncodeOfDecodeIsTheWord := fun _ _ hd => (decode_eq_some.1 hd).1

/-- Settles O4: each word is the word of its command, which is well formed. -/
theorem wordsOfTheSpecDecode : Obligations.WordsOfTheSpecDecode := by
  simp only [Obligations.WordsOfTheSpecDecode, decode_eq_some]
  decide

end Sys2Proof
end

section
/-! The opcode table (30_encoding.md R86) against the decoder: its rows have pairwise different opcodes, and the row of
an opcode holds of exactly the legal words with that opcode. -/

namespace Sys2Proof

open Machine

/-- No two rows have one opcode. -/
theorem opcodeTable_nodup : (opcodeTable.map fun r => opcodeOf r.matchBits).Nodup := by decide

/-- Every row fixes the whole opcode, and its fixed operand bits are zero. -/
theorem opcodeTable_fixes : ∀ r ∈ opcodeTable, opcodeOf r.mask = 0xFF ∧ operandOf r.matchBits = 0 := by decide

/-- Every command has a row. -/
theorem opcode_mem_opcodeTable (i : Instr) : i.opcode ∈ opcodeTable.map fun r => opcodeOf r.matchBits := by
  cases i <;> exact of_decide_eq_true rfl

theorem opcodeOf_mem_of_legal {w : CmdWord} (h : (decode w).isSome = true) :
    opcodeOf w ∈ opcodeTable.map fun r => opcodeOf r.matchBits := by
  obtain ⟨i, hd⟩ := Option.isSome_iff_exists.1 h
  obtain ⟨hop, -⟩ := encode_eq_iff.1 (decode_eq_some.1 hd).1
  exact hop ▸ opcode_mem_opcodeTable i

/-- The mask test, opcode and operand apart. -/
theorem mask_test_iff {r : OpcodeRow} (hr : r ∈ opcodeTable) (w : CmdWord) :
    (w &&& r.mask == r.matchBits) = true ↔
      opcodeOf w = opcodeOf r.matchBits ∧ operandOf w &&& operandOf r.mask = 0 := by
  obtain ⟨hmask, hmatch⟩ := opcodeTable_fixes r hr
  have hop : opcodeOf (w &&& r.mask) = opcodeOf w := by
    rw [opcodeOf, BitVec.extractLsb'_and, ← opcodeOf, ← opcodeOf, hmask]
    exact BitVec.and_allOnes
  have hx : operandOf (w &&& r.mask) = operandOf w &&& operandOf r.mask := BitVec.extractLsb'_and
  rw [beq_iff_eq, ← hmatch, ← hop, ← hx]
  constructor
  · exact fun h => ⟨congrArg opcodeOf h, congrArg operandOf h⟩
  · rintro ⟨hsameop, hsamex⟩
    rw [← opcodeOf_append_operandOf (w &&& r.mask), hsameop, hsamex, opcodeOf_append_operandOf]

/-- The elements of a list that share a key, when no two keys of the list are equal. -/
theorem length_filter_le_one {α β : Type} {l : List α} {p : α → Bool} (key : α → β) {c : β} (hl : (l.map key).Nodup)
    (hp : ∀ a ∈ l, p a = true → key a = c) : (l.filter p).length ≤ 1 := by
  have hsub : ((l.filter p).map key).Nodup := hl.sublist (List.filter_sublist.map key)
  have hsame : (l.filter p).map key = List.replicate (l.filter p).length c := by
    refine List.eq_replicate_iff.2 ⟨List.length_map _, fun b hb => ?_⟩
    obtain ⟨a, ha, rfl⟩ := List.mem_map.1 hb
    obtain ⟨hal, hpa⟩ := List.mem_filter.1 ha
    exact hp a hal hpa
  rwa [hsame, List.nodup_replicate] at hsub

/-- No word passes the mask test of two rows (R86). -/
theorem mask_test_le_one (w : CmdWord) : (opcodeTable.filter fun r => w &&& r.mask == r.matchBits).length ≤ 1 :=
  length_filter_le_one _ opcodeTable_nodup fun _ hr h => ((mask_test_iff hr w).1 h).1.symm

theorem holds_le_one (w : CmdWord) : (opcodeTable.filter (·.holds w)).length ≤ 1 :=
  length_filter_le_one _ opcodeTable_nodup fun _ hr h =>
    ((mask_test_iff hr w).1 (Bool.and_eq_true_iff.1 h).1).1.symm

/-! What is legal, opcode by opcode (R83): a bound on the operand word, and the conditions of R85. -/

/-- A word whose high bits are zero is a small number. -/
theorem extractLsb'_high_eq_zero {x : Word} {n m : Nat} (h : n + m = 32) :
    x.extractLsb' n m = 0 ↔ x.toNat < 2 ^ n := by
  constructor
  · intro hz
    rw [eq_placed_of_high_zero h hz, placed, BitVec.shiftLeft_zero, BitVec.toNat_setWidth_of_le (by omega)]
    exact BitVec.isLt _
  · intro hlt
    refine BitVec.eq_of_toNat_eq ?_
    rw [BitVec.extractLsb'_toNat, Nat.shiftRight_eq_div_pow, Nat.div_eq_of_lt hlt]
    simp

/-- The low field of a word is its remainder. -/
theorem toNat_extractLsb'_zero {l : Nat} (x : BitVec l) (n : Nat) : (x.extractLsb' 0 n).toNat = x.toNat % 2 ^ n := by
  rw [BitVec.extractLsb'_toNat, Nat.shiftRight_zero]

/-- A value that is only there under a condition. -/
theorem any_ite_none {α : Type} {c : Prop} [Decidable c] {o : Option α} {p : α → Bool} :
    (if c then o else none).any p = true ↔ c ∧ o.any p = true := by
  by_cases hc : c <;> simp [hc]

theorem any_of_forall {α : Type} {o : Option α} {p : α → Bool} (hp : ∀ a, p a = true) : o.any p = o.isSome := by
  cases o <;> simp [hp]

section Legal

variable {w : CmdWord}

/-- A word is legal if what its format reads is a well-formed command (R84). -/
theorem legal_iff_any {o : Option Instr} (hd : decodeFields w = o) :
    (decode w).isSome = true ↔ o.any Instr.wf = true := by
  rw [decode, Option.isSome_filter, hd]

theorem legal_of_formatN {i : Instr} (hd : decodeFields w = formatN (operandOf w) i) (hwf : i.wf = true) :
    (decode w).isSome = true ↔ (operandOf w).toNat < 2 ^ 0 := by
  rw [legal_iff_any hd, formatN, any_ite_none, ← extractLsb'_high_eq_zero (m := 32) rfl, BitVec.extractLsb'_eq_self]
  simp [hwf]

theorem legal_of_formatB {f : Byte → Instr} (hd : decodeFields w = formatB (operandOf w) f)
    (hwf : ∀ b, (f b).wf = true) : (decode w).isSome = true ↔ (operandOf w).toNat < 2 ^ 8 := by
  rw [legal_iff_any hd, formatB, any_ite_none, extractLsb'_high_eq_zero rfl]
  simp [hwf]

theorem legal_dmread_iff (hop : opcodeOf w = 0x13) : (decode w).isSome = true ↔ (operandOf w).toNat < 2 ^ 16 := by
  rw [legal_iff_any (o := formatH (operandOf w) .dmread) (by rw [decodeFields, hop]; rfl), formatH, any_ite_none,
    extractLsb'_high_eq_zero rfl]
  simp [Instr.wf]

theorem legal_dmwrite_iff (hop : opcodeOf w = 0x14) : (decode w).isSome = true ↔ (operandOf w).toNat < 2 ^ 24 := by
  rw [legal_iff_any (o := formatAV (operandOf w) .dmwrite) (by rw [decodeFields, hop]; rfl), formatAV, any_ite_none,
    extractLsb'_high_eq_zero rfl]
  simp [Instr.wf]

theorem legal_setcov (hop : opcodeOf w = 0x51) : (decode w).isSome = true := by
  rw [legal_iff_any (o := formatM (operandOf w) .setcov) (by rw [decodeFields, hop]; rfl)]
  rfl

/-- R85 (c). -/
theorem legal_direct_iff (hop : opcodeOf w = 0x10) : (decode w).isSome = true ↔ (operandOf w).toNat < 2 ^ 7 := by
  rw [legal_iff_any (o := formatB (operandOf w) .direct) (by rw [decodeFields, hop]; rfl), formatB, any_ite_none,
    extractLsb'_high_eq_zero rfl]
  simp only [Option.any_some, Instr.wf, decide_eq_true_eq, BitVec.le_def, toNat_extractLsb'_zero]
  have hb : (0x7F : Byte).toNat = 127 := rfl
  omega

/-- R85 (d). -/
theorem legal_subcmd_iff (hop : opcodeOf w = 0x11) : (decode w).isSome = true ↔
    (operandOf w).toNat < 2 ^ 16 ∧ (operandOf w).extractLsb' 0 16 ≠ 0x0090 ∧
      (operandOf w).extractLsb' 0 16 ≠ 0x0092 := by
  rw [legal_iff_any (o := formatH (operandOf w) .subcmd) (by rw [decodeFields, hop]; rfl), formatH, any_ite_none,
    extractLsb'_high_eq_zero rfl]
  simp [Instr.wf, Config.scCuEnter, Config.scCuExit]

/-- R85 (e). -/
theorem legal_cellv_iff (hop : opcodeOf w = 0x30) :
    (decode w).isSome = true ↔ 1 ≤ (operandOf w).toNat ∧ (operandOf w).toNat ≤ 16 := by
  rw [legal_iff_any (o := formatI (operandOf w) .cellv) (by rw [decodeFields, hop]; rfl), formatI, any_ite_none,
    extractLsb'_high_eq_zero rfl]
  simp only [Option.any_some, Instr.wf, Bool.and_eq_true, decide_eq_true_eq, BitVec.le_def, toNat_extractLsb'_zero]
  have h1 : (1 : BitVec 5).toNat = 1 := rfl
  have h16 : (16 : BitVec 5).toNat = 16 := rfl
  omega

theorem thermistorOf_isSome_iff : ∀ c, (thermistorOf c).isSome = true ↔ c.toNat ≤ 5 := by decide

/-- R85 (f). -/
theorem legal_therm_iff (hop : opcodeOf w = 0x34) : (decode w).isSome = true ↔ (operandOf w).toNat ≤ 5 := by
  rw [legal_iff_any (o := formatC (operandOf w) .therm) (by rw [decodeFields, hop]; rfl), formatC, any_ite_none,
    extractLsb'_high_eq_zero rfl, Option.any_map, any_of_forall, thermistorOf_isSome_iff, toNat_extractLsb'_zero]
  · omega
  · exact fun _ => rfl

theorem fetTargetOf_isSome_iff : ∀ c, (fetTargetOf c).isSome = true ↔ c.toNat ≤ 2 := by decide

/-- R85 (g). -/
theorem legal_setfet_iff (hop : opcodeOf w = 0x50) :
    (decode w).isSome = true ↔ (operandOf w).toNat < 2 ^ 3 ∧ (operandOf w).toNat % 2 ^ 2 ≤ 2 := by
  rw [legal_iff_any (o := formatF (operandOf w) .setfet) (by rw [decodeFields, hop]; rfl), formatF, any_ite_none,
    extractLsb'_high_eq_zero rfl, Option.any_map, any_of_forall, fetTargetOf_isSome_iff, toNat_extractLsb'_zero]
  exact fun _ => rfl

end Legal

/-! Each row against the decoder. -/

/-- The operand bits from bit `lo` up. -/
def highBits (lo : Nat) : Word := BitVec.allOnes 32 <<< lo

theorem getLsbD_highBits (lo i : Nat) : (highBits lo).getLsbD i = (decide (i < 32) && !decide (i < lo)) := by
  rw [highBits, BitVec.getLsbD_shiftLeft, BitVec.getLsbD_allOnes]
  by_cases hi : i < 32
  · have hin : i - lo < 32 := by omega
    simp [hin]
  · simp [hi]

/-- The mask of a row whose operand ends below bit `lo` tests that every bit from there up is zero. -/
theorem and_highBits_eq_zero {x : Word} {lo : Nat} (h : lo ≤ 32) : x &&& highBits lo = 0 ↔ x.toNat < 2 ^ lo := by
  rw [← extractLsb'_high_eq_zero (Nat.add_sub_cancel' h)]
  constructor
  · intro hz
    refine BitVec.eq_of_getLsbD_eq fun i hi => ?_
    have hbit : (x &&& highBits lo).getLsbD (lo + i) = false := by simp [hz]
    have hlt : lo + i < 32 := by omega
    rw [BitVec.getLsbD_and, getLsbD_highBits] at hbit
    simpa [hlt, hi] using hbit
  · intro hz
    rw [eq_placed_of_high_zero (Nat.add_sub_cancel' h) hz]
    refine BitVec.eq_of_getLsbD_eq fun i hi => ?_
    rw [BitVec.getLsbD_and, getLsbD_placed, getLsbD_highBits]
    by_cases hlow : i < lo
    · simp [hlow]
    · simp [BitVec.getLsbD_of_ge _ _ (Nat.not_lt.1 hlow)]

/-- The row is right about the words with its opcode: legal are those that pass the rest of its test. -/
def OpcodeRow.Right (r : OpcodeRow) : Prop :=
  ∀ w : CmdWord, opcodeOf w = opcodeOf r.matchBits →
    ((decode w).isSome = true ↔ operandOf w &&& operandOf r.mask = 0 ∧ r.constraint w = true)

section Rows

variable {name : String} {m k : CmdWord}

/-- A row whose operand ends below bit `lo`. -/
theorem right_of_legal {r : OpcodeRow} {lo : Nat} (hlo : lo ≤ 32) (hmask : operandOf r.mask = highBits lo)
    (hl : ∀ w, opcodeOf w = opcodeOf r.matchBits →
      ((decode w).isSome = true ↔ (operandOf w).toNat < 2 ^ lo ∧ r.constraint w = true)) : r.Right := by
  intro w hop
  rw [hl w hop, hmask, and_highBits_eq_zero hlo]

theorem right_plain {lo : Nat} (hlo : lo ≤ 32) (hmask : operandOf k = highBits lo)
    (hl : ∀ w, opcodeOf w = opcodeOf m → ((decode w).isSome = true ↔ (operandOf w).toNat < 2 ^ lo)) :
    (OpcodeRow.plain name m k).Right :=
  right_of_legal hlo hmask fun w hop => by simpa [OpcodeRow.plain] using hl w hop

theorem right_formatN (i : Instr) (hmask : operandOf k = highBits 0 := by decide) (hwf : i.wf = true := by rfl)
    (hd : ∀ w, opcodeOf w = opcodeOf m → decodeFields w = formatN (operandOf w) i := by
      intro w hop; rw [decodeFields, hop]; rfl) : (OpcodeRow.plain name m k).Right :=
  right_plain (by decide) hmask fun w hop => legal_of_formatN (hd w hop) hwf

theorem right_formatB (f : Byte → Instr) (hmask : operandOf k = highBits 8 := by decide)
    (hwf : ∀ b, (f b).wf = true := by intro b; rfl)
    (hd : ∀ w, opcodeOf w = opcodeOf m → decodeFields w = formatB (operandOf w) f := by
      intro w hop; rw [decodeFields, hop]; rfl) : (OpcodeRow.plain name m k).Right :=
  right_plain (by decide) hmask fun w hop => legal_of_formatB (hd w hop) hwf

end Rows

/-- The operand fields that a constraint of the table reads from the whole word. -/
theorem extractLsb'_operandOf (w : CmdWord) {n : Nat} (h : n ≤ 32) :
    w.extractLsb' 0 n = (operandOf w).extractLsb' 0 n := by
  refine BitVec.eq_of_getLsbD_eq fun i hi => ?_
  have hlt : i < 32 := by omega
  simp [operandOf, hi, hlt]

/-- The rows of the table are right, one after the other (R83, R86). -/
theorem opcodeTable_right : ∀ r ∈ opcodeTable, r.Right := by
  simp only [opcodeTable, List.cons_append, List.nil_append, List.forall_mem_cons]
  refine ⟨right_formatN .csClr, right_formatB .csPush, right_formatN .csGet,
    right_plain (lo := 7) (by decide) (by decide) fun w hop => legal_direct_iff hop,
    right_of_legal (lo := 16) (by decide) (by decide) fun w hop => ?subcmd, right_formatN .subrsp,
    right_plain (lo := 16) (by decide) (by decide) fun w hop => legal_dmread_iff hop,
    right_plain (lo := 24) (by decide) (by decide) fun w hop => legal_dmwrite_iff hop,
    right_formatN .cuEnter, right_formatN .cuExit,
    right_of_legal (lo := 5) (by decide) (by decide) fun w hop => ?cellv, right_formatN .allcellv,
    right_formatN .current, right_formatN .itemp,
    right_of_legal (lo := 3) (by decide) (by decide) fun w hop => ?therm, right_formatN .prot, right_formatN .tempstat,
    right_formatN .ischg, right_formatN .isdsg, right_formatB .decProt, right_formatB .decTemp, right_formatB .decFet,
    right_of_legal (lo := 3) (by decide) (by decide) fun w hop => ?setfet,
    right_plain (lo := 32) (by decide) (by decide) fun w hop => ?setcov, nofun⟩
  case subcmd =>
    rw [legal_subcmd_iff hop]
    simp [extractLsb'_operandOf]
  case cellv =>
    rw [legal_cellv_iff hop]
    simp only [Bool.and_eq_true, decide_eq_true_eq, extractLsb'_operandOf w (n := 5) (by decide),
      toNat_extractLsb'_zero]
    omega
  case therm =>
    rw [legal_therm_iff hop]
    simp only [decide_eq_true_eq, extractLsb'_operandOf w (n := 3) (by decide), toNat_extractLsb'_zero]
    omega
  case setfet =>
    rw [legal_setfet_iff hop]
    simp only [decide_eq_true_eq, extractLsb'_operandOf w (n := 2) (by decide), toNat_extractLsb'_zero]
  case setcov => exact iff_of_true (legal_setcov hop) (BitVec.isLt _)

/-- A row holds of exactly the legal words with its opcode (R86). -/
theorem holds_iff {r : OpcodeRow} (hr : r ∈ opcodeTable) (w : CmdWord) :
    r.holds w = true ↔ opcodeOf w = opcodeOf r.matchBits ∧ (decode w).isSome = true := by
  rw [OpcodeRow.holds, Bool.and_eq_true, mask_test_iff hr, and_assoc]
  exact and_congr_right fun hop => (opcodeTable_right r hr w hop).symm

/-- A word is legal if some row holds of it (R86). -/
theorem legal_iff_exists_row (w : CmdWord) : (decode w).isSome = true ↔ ∃ r ∈ opcodeTable, r.holds w = true := by
  constructor
  · intro hlegal
    obtain ⟨r, hr, hop⟩ := List.mem_map.1 (opcodeOf_mem_of_legal hlegal)
    exact ⟨r, hr, (holds_iff hr w).2 ⟨hop.symm, hlegal⟩⟩
  · rintro ⟨r, hr, hw⟩
    exact ((holds_iff hr w).1 hw).2

/-- Settles O3: a legal word has its row, and no word has two. -/
theorem legalIffExactlyOneOpcodeRow : Obligations.LegalIffExactlyOneOpcodeRow := by
  refine ⟨fun w => ?_, mask_test_le_one⟩
  rw [legal_iff_exists_row, ← List.length_filter_pos_iff]
  have hle := holds_le_one w
  omega

end Sys2Proof
end

section
/-! The illegal encodings (30_encoding.md R85), from the rows of the opcode table and from what is legal with their
opcode. -/

namespace Sys2Proof

/-- A word is illegal if no legal word has its fields. -/
theorem decode_append_eq_none {op : Byte} {x : Word}
    (h : ∀ w, opcodeOf w = op → operandOf w = x → ¬ (decode w).isSome = true) : decode (op ++ x) = none := by
  obtain ⟨hop, hx⟩ := Laws.Row.of_append op x
  exact Option.not_isSome_iff_eq_none.1 (h _ hop hx)

/-- A word is illegal if its operand reaches beyond the bits its row leaves free: a must-be-zero bit is set. -/
theorem decode_append_eq_none_of_rows {ops : List Nat} {lo : Nat} (hlo : lo ≤ 32)
    (hrows : ∀ n ∈ ops, ∃ r ∈ opcodeTable, ∃ k ≤ lo, (opcodeOf r.matchBits).toNat = n ∧ operandOf r.mask = highBits k)
    {op : Byte} {x : Word} (hop : op.toNat ∈ ops) (hx : 2 ^ lo ≤ x.toNat) : decode (op ++ x) = none := by
  refine decode_append_eq_none fun w hw hwx hlegal => ?_
  obtain ⟨r, hr, k, hk, hopr, hmask⟩ := hrows _ hop
  obtain ⟨hzero, -⟩ := (opcodeTable_right r hr w (hw.trans (BitVec.eq_of_toNat_eq hopr.symm))).1 hlegal
  rw [hmask, and_highBits_eq_zero (hk.trans hlo), hwx] at hzero
  exact absurd (hzero.trans_le (Nat.pow_le_pow_right (by decide) hk)) (Nat.not_lt.2 hx)

/-- Settles O5: must-be-zero bits by the masks of the rows, the other conditions by what is legal with their opcode. -/
theorem listedEncodingsAreIllegal : Obligations.ListedEncodingsAreIllegal := by
  refine ⟨?unknown, ?formatN, ?formatB, ?formatH, ?formatAV, ?direct, by decide, by decide, ?cellv, ?therm, ?setfet⟩
  case unknown =>
    refine fun op x hop => decode_append_eq_none fun w hw _ hlegal => hop ?_
    rw [← hw]
    exact List.mem_map_of_mem (f := BitVec.toNat) (opcodeOf_mem_of_legal hlegal)
  case formatN =>
    refine fun op x hop hx => decode_append_eq_none_of_rows (lo := 0) (by decide) (by decide) hop ?_
    exact Nat.one_le_iff_ne_zero.2 fun h0 => hx (BitVec.eq_of_toNat_eq h0)
  case formatB => exact fun op x => decode_append_eq_none_of_rows (by decide) (by decide)
  case formatH => exact fun op x => decode_append_eq_none_of_rows (by decide) (by decide)
  case formatAV => exact fun x => decode_append_eq_none_of_rows (ops := [0x14]) (by decide) (by decide) (by decide)
  case direct =>
    exact fun x => decode_append_eq_none_of_rows (ops := [0x10]) (lo := 7) (by decide) (by decide) (by decide)
  case cellv =>
    refine fun x hx => decode_append_eq_none fun w hw hwx => ?_
    rw [legal_cellv_iff hw, hwx]
    omega
  case therm =>
    refine fun x hx => decode_append_eq_none fun w hw hwx => ?_
    rw [legal_therm_iff hw, hwx]
    omega
  case setfet =>
    refine fun x hx => decode_append_eq_none fun w hw hwx => ?_
    rw [legal_setfet_iff hw, hwx]
    omega

end Sys2Proof
end

section
/-! The commands without interface events on CSUM (40_checksum.md R101 to R104), one after the other. -/

namespace Sys2Proof.Machine

open Claims

section Commands

variable {s : State} (hs : Idle s)
include hs

/-- R101, the whole next state. -/
theorem exec_csClr : exec .csClr s = .next { quiet s with acc := 0x00, seeded := false } := by
  obtain ⟨hb, h0⟩ := hs
  simp [exec, execCsClr, State.begin, State.csumClear, State.finish, quiet, hb, h0]

/-- R102, the whole next state. -/
theorem exec_csPush (b : Byte) :
    exec (.csPush b) s = .next { quiet s with acc := if s.seeded then csumFold s.acc b else b, seeded := true } := by
  obtain ⟨hb, h0⟩ := hs
  simp [exec, execCsPush, State.begin, State.csumPush, State.finish, quiet, hb, h0]

/-- R104, the whole next state after a byte has been pushed. -/
theorem exec_csGet_seeded (hseeded : s.seeded = true) :
    exec .csGet s = .next { quiet s with result := (~~~s.acc).setWidth 32 } := by
  obtain ⟨hb, h0⟩ := hs
  simp [exec, execCsGet, State.begin, State.setResult, State.finish, quiet, hb, h0, hseeded]

end Commands

/-- The fold of R100 in numbers: the carry is dropped. -/
theorem csumFold_eq_ofNat (a b : Byte) : csumFold a b = BitVec.ofNat 8 (255 - a.toNat + b.toNat) := by
  rw [csumFold]
  bv_omega

theorem execEach_cons {i : Instr} {is : List Instr} {s t : State} (h : exec i s = .next t) :
    execEach (i :: is) s = execEach is t := by
  simp [execEach, h]

/-- What the commands so far have left (R25, R102): outcome OK, `n` of them done, the accumulator. -/
def pushed (s : State) (acc : Byte) (n : Nat) : State :=
  { s with err := .ok, fstep := 0, acc := acc, seeded := true, trace := s.trace ++ List.replicate n (.done .ok 0) }

theorem exec_csPush_pushed {s : State} (hs : Idle s) (acc b : Byte) (n : Nat) :
    exec (.csPush b) (pushed s acc n) = .next (pushed s (csumFold acc b) (n + 1)) := by
  rw [exec_csPush (s := pushed s acc n) hs]
  simp [pushed, quiet, List.replicate_succ']

/-- R103: pushes after the first fold their bytes in order. -/
theorem execEach_csPush {s : State} (hs : Idle s) (bs : List Byte) (is : List Instr) (acc : Byte) (n : Nat) :
    execEach (bs.map .csPush ++ is) (pushed s acc n) =
      execEach is (pushed s (bs.foldl csumFold acc) (n + bs.length)) := by
  induction bs generalizing acc n with
  | nil => rfl
  | cons b bs ih =>
    rw [List.map_cons, List.cons_append, execEach_cons (exec_csPush_pushed hs acc b n), ih, List.foldl_cons,
      List.length_cons, Nat.add_right_comm, Nat.add_assoc]

/-- R90: CHECKSUM, the whole state it ends in. -/
theorem execEach_checksum {s : State} (hs : Idle s) (b : Byte) (bs : List Byte) :
    execEach (Instr.checksum b bs) s = .next
      { pushed s (csumAcc b bs) (bs.length + 3) with result := (checksumByte b bs).setWidth 32 } := by
  have hfirst : exec (.csPush b) { quiet s with acc := 0x00, seeded := false } = .next (pushed s b 2) := by
    rw [exec_csPush (s := { quiet s with acc := 0x00, seeded := false }) hs]
    simp [pushed, quiet]
  have hget := exec_csGet_seeded (s := pushed s (csumAcc b bs) (2 + bs.length)) hs rfl
  rw [Instr.checksum, List.map_cons, List.cons_append, List.cons_append, execEach_cons (exec_csClr hs),
    execEach_cons hfirst, execEach_csPush hs, ← csumAcc, execEach_cons hget]
  simp [execEach, pushed, quiet, checksumByte, Nat.add_comm 2, List.replicate_succ' (n := bs.length + 2)]

/-- Settles O21. -/
theorem pushedBytesGiveTheChecksumByte : Obligations.PushedBytesGiveTheChecksumByte := by
  intro s b bs hs acc
  have hacc : acc = csumAcc b bs := by simp only [acc, csumAcc, ← csumFold_eq_ofNat]
  rw [execEach_checksum hs, hacc]
  rfl

end Sys2Proof.Machine
end

section
/-! CSUM by itself: the whole next state of CS_CLR, CS_PUSH and CS_GET (40_checksum.md R101, R102, R104), and the laws of
the checksum byte (R105, R106). -/

namespace Sys2Proof.Machine

open Claims

/-- R104, R182: CS_GET is refused before the first push. -/
theorem exec_csGet_unseeded {s : State} (hunseeded : s.seeded = false) : exec .csGet s = .next s.raiseIllegal := by
  simp [exec, execCsGet, hunseeded]

/-- R10: the complement of a byte in numbers, zero-extended to a register. -/
theorem setWidth_not_eq_ofNat (a : Byte) : (~~~a).setWidth 32 = BitVec.ofNat 32 (255 - a.toNat) := by
  bv_omega

/-- Settles O18. -/
theorem csClrClearsTheChecksum : Obligations.CsClrClearsTheChecksum := fun _ hs => exec_csClr hs

/-- Settles O19: CS_PUSH by whether the accumulator is seeded, the fold in numbers. -/
theorem csPushSeedsThenFolds : Obligations.CsPushSeedsThenFolds := by
  intro s b hs
  rw [exec_csPush hs, ← csumFold_eq_ofNat]
  constructor
  · intro hunseeded
    simp [hunseeded]
  · intro hseeded
    simp [hseeded]

/-- Settles O20. -/
theorem csGetReturnsComplementOrIsIllegal : Obligations.CsGetReturnsComplementOrIsIllegal := by
  intro s hs
  constructor
  · intro hseeded
    rw [exec_csGet_seeded hs hseeded, setWidth_not_eq_ofNat]
  · exact exec_csGet_unseeded

/-- The step of R105's induction: a fold negates the sum so far, up to a complement. -/
theorem csumFold_sub (a b x : Byte) : csumFold a b - x = ~~~(a - (b - x)) := by
  rw [csumFold]
  bv_omega

theorem ofInt_sub (x y : Int) : BitVec.ofInt 8 (x - y) = BitVec.ofInt 8 x - BitVec.ofInt 8 y := by
  rw [Int.sub_eq_add_neg, BitVec.ofInt_add, BitVec.ofInt_neg, ← BitVec.sub_eq_add_neg]

theorem ofInt_alternatingSum_cons (b : Byte) (bs : List Byte) :
    BitVec.ofInt 8 (alternatingSum (b :: bs)) = b - BitVec.ofInt 8 (alternatingSum bs) := by
  rw [alternatingSum, ofInt_sub, BitVec.ofInt_natCast, BitVec.ofNat_toNat, BitVec.setWidth_eq]

/-- R105: `(-1 - s) mod 256 = ~(s mod 256)`. -/
theorem ofInt_neg_one_sub (x : Int) : BitVec.ofInt 8 (-1 - x) = ~~~BitVec.ofInt 8 x := by
  rw [ofInt_sub, ← BitVec.allOnes_sub_eq_not]
  rfl

/-- R105: the accumulator is the alternating sum, complemented when the number of bytes is even. -/
theorem csumAcc_eq_alternatingSum (b : Byte) (bs : List Byte) :
    csumAcc b bs =
      if bs.length % 2 = 0 then BitVec.ofInt 8 (alternatingSum (b :: bs))
      else ~~~BitVec.ofInt 8 (alternatingSum (b :: bs)) := by
  induction bs generalizing b with
  | nil => simp [csumAcc, alternatingSum]
  | cons c cs ih =>
    have hstep : csumAcc b (c :: cs) = csumAcc (csumFold b c) cs := rfl
    have hsum : BitVec.ofInt 8 (alternatingSum (csumFold b c :: cs)) =
        ~~~BitVec.ofInt 8 (alternatingSum (b :: c :: cs)) := by
      simp only [ofInt_alternatingSum_cons, csumFold_sub]
    rw [hstep, ih, hsum, BitVec.not_not, List.length_cons]
    rcases Nat.mod_two_eq_zero_or_one cs.length with hpar | hpar <;> simp [hpar, Nat.succ_mod_two_eq_zero_iff]

/-- Settles O22: the two parities of the closed form. -/
theorem checksumIsTheAlternatingSum : Obligations.ChecksumIsTheAlternatingSum := by
  intro b bs
  rw [checksumByte, csumAcc_eq_alternatingSum, ofInt_neg_one_sub, List.length_cons]
  constructor
  · intro hodd
    have heven : bs.length % 2 = 0 := by omega
    simp [heven]
  · intro heven
    have hodd : bs.length % 2 = 1 := by omega
    simp [hodd]

/-- R106: the checksum of two bytes is their difference, the second case of R105. -/
theorem checksumByte_pair (a b : Byte) : checksumByte a [b] = a - b := by
  rw [checksumByte, csumAcc_eq_alternatingSum, ofInt_alternatingSum_cons, ofInt_alternatingSum_cons]
  simp [alternatingSum]

/-- R106: a difference is its own negation exactly when it is 0 or half the range. -/
theorem sub_eq_sub_swap_iff (a b : Byte) : a - b = b - a ↔ a = b ∨ (a - b).toNat = 128 := by
  bv_omega

/-- Settles O23: the two checksums are the two differences. -/
theorem checksumOrderMattersButForHalfRange : Obligations.ChecksumOrderMattersButForHalfRange := by
  simp only [Obligations.ChecksumOrderMattersButForHalfRange, checksumByte_pair]
  exact ⟨fun a b => ⟨trivial, trivial, sub_eq_sub_swap_iff a b⟩, by decide, by decide⟩

end Sys2Proof.Machine
end

section
/-! The commands that are one bus write, or one bus write and a read of two bytes (41_direct_subcommand.md R110 to
R114): what they request, and the whole state they end in. -/

namespace Sys2Proof.Machine

open Claims

/-! The command as its rows (R110 to R113). -/

/-- R113: SUBRSP is a Direct Command read of the response window. -/
theorem execSubrsp_eq_directRead (s : State) :
    execSubrsp s = directRead Config.selResp (fun t => t.setResult (t.raw.setWidth 32)) s := rfl

/-- R58, R110: a command that is one Direct Command read is its two rows, and what follows them is no event. -/
theorem exec_eq_directRead {i : Instr} {op : Byte} (h : directOpcode i = some op) :
    ∃ fin : State → State, (∀ s, exec i s = directRead op fin s) ∧ ∀ u, (fin u).trace = u.trace := by
  cases i
  case direct | cellv | current | itemp | therm | prot | tempstat | ischg | isdsg =>
    cases h
    exact ⟨_, fun _ => rfl, fun u => by simp⟩
  all_goals cases h

/-! The traffic (R114). -/

section Traffic

variable {s : State} {allowed : Request → Prop}

theorem onlyRequests_refl : OnlyRequests s s allowed := ⟨[], by simp⟩

theorem onlyRequests_start {r : Request} (h : allowed r) : OnlyRequests s (s.start r) allowed :=
  ⟨[.request r], by simp [h]⟩

theorem onlyRequests_issue {u : State} {n : Nat} {r : Request} (a : Answer) (h : u.trace = s.trace ++ [.answered a])
    (hr : allowed r) : OnlyRequests s (u.issue n r) allowed :=
  ⟨[.answered a, .request r], by simp [h, hr]⟩

theorem onlyRequests_finish {u : State} (a : Answer) (h : u.trace = s.trace ++ [.answered a]) :
    OnlyRequests s u.finish allowed :=
  ⟨[.answered a, .done u.err u.fstep], by simp [h]⟩

/-- R110: a Direct Command read requests its write and its read, and nothing else. -/
theorem directRead_onlyRequests {op : Byte} {fin : State → State} (hwrite : allowed (frameDC op))
    (hread : allowed (busRead 2)) (hfin : ∀ u, (fin u).trace = u.trace) :
    NextIs (OnlyRequests s · allowed) (directRead op fin s) := by
  refine nextIs_directRead onlyRequests_refl (fun _ => onlyRequests_start hwrite) (fun _ ok rest => ?_)
    fun _ r0 r1 rest => ?_
  · exact onlyRequests_issue (.wrote ok) (by simp) hread
  · exact onlyRequests_finish (.data [r0, r1]) (by simp [hfin])

/-- R142: ALLCELLV requests the writes and the reads of its cells, and nothing else. -/
theorem execAllcellv_onlyRequests (hwrite : ∀ op, allowed (frameDC op)) (hread : allowed (busRead 2)) :
    NextIs (OnlyRequests s · allowed) (execAllcellv s) := by
  refine nextIs_execAllcellv onlyRequests_refl (fun _ => onlyRequests_start (hwrite _)) (fun k _ _ _ ok rest => ?_)
    (fun k _ _ _ _ r0 r1 rest => ?_) fun _ r0 r1 rest => ?_
  · exact onlyRequests_issue (.wrote ok) (by simp) hread
  · exact onlyRequests_issue (.data [r0, r1]) (by simp) (hwrite _)
  · exact onlyRequests_finish (.data [r0, r1]) (by simp)

end Traffic

/-- Settles O28: the rows of `direct_read`, for one opcode or for the sixteen of ALLCELLV. -/
theorem directReadsMakeNoOtherTraffic : Obligations.DirectReadsMakeNoOtherTraffic := by
  rintro i s t (hi | rfl) h
  · obtain ⟨op, hop⟩ := Option.isSome_iff_exists.1 hi
    obtain ⟨fin, hexec, hfin⟩ := exec_eq_directRead hop
    rw [hexec] at h
    exact directRead_onlyRequests (.inl ⟨op, rfl⟩) (.inr rfl) hfin t h
  · exact execAllcellv_onlyRequests (fun op => .inl ⟨op, rfl⟩) (.inr rfl) t h

/-! The end of a command with one write (R180, R181). -/

/-- R181: the first refusal, when none is recorded yet. -/
theorem noteNack_eq_firstRefused {s : State} {n : Nat} (hn : n ≠ 0) (herr : s.err = .ok) (hfstep : s.fstep = 0)
    (ok : Bool) :
    s.noteNack n ok = { s with
      err := outcomeOf (firstRefused [(n, ok)]), fstep := BitVec.ofNat 6 (firstRefused [(n, ok)]) } := by
  cases ok with
  | true =>
    rw [State.noteNack_ok]
    show s = { s with err := .ok, fstep := 0 }
    rw [← herr, ← hfstep]
  | false => simp [State.noteNack_first, herr, firstRefused, outcomeOf, hn]

/-- R112: the state after one write and `done`. -/
theorem singleWrite_ended (s : State) (bytes : List Byte) (ok : Bool) (rest : List Input) :
    (((s.start (busWrite bytes)).take (.wrote ok) rest).noteNack 1 ok).finish =
      s.ended [(1, ok)] rest (bw bytes ok) := by
  rw [noteNack_eq_firstRefused one_ne_zero rfl rfl]
  simp [State.start, State.begin, State.issue, State.take, State.finish, State.ended, bw, busWrite, Config.devWr]

/-- R110: the state after the two rows of a Direct Command read and `done`, before RAW is written. -/
theorem directRead_ended (s : State) (op : Byte) (ok : Bool) (r0 r1 : Byte) (mid rest : List Input) :
    (((((s.start (frameDC op)).take (.wrote ok) mid).noteNack 1 ok).issue 2 (busRead 2)).take
        (.data [r0, r1]) rest).finish =
      s.ended [(1, ok)] rest (bw [op] ok ++ br 2 [r0, r1]) := by
  rw [noteNack_eq_firstRefused one_ne_zero rfl rfl]
  simp [State.start, State.begin, State.issue, State.take, State.finish, State.ended, bw, br, frameDC, busWrite,
    busRead, Config.devWr, Config.devRd]

/-- R110: a command that is `directRead` completes with the effect of its last row. -/
theorem readCompletes_of_directRead {i : Instr} {op : Byte} {fin : State → State} {effect : State → Half → State}
    (hexec : ∀ s, exec i s = directRead op fin s)
    (heffect : ∀ (u : State) (w : Half), (fin { u with raw := w }).finish = { effect u.finish w with raw := w }) :
    ReadCompletes i op effect := by
  intro s ok r0 r1 rest hidle hin
  obtain ⟨-, hstep⟩ := hidle
  rw [List.cons_append, List.singleton_append] at hin
  have haccept := (hexec s).trans (directRead_accept hstep)
  have hwritten := (hexec (s.start (frameDC op))).trans
    ((directRead_written rfl).trans (onWrite_answer (s := s.start (frameDC op)) hin))
  refine completes_succ haccept (completes_succ hwritten (completes_zero (by simp) ?_))
  rw [hexec, directRead_received rfl, onRead2_answer (r0 := r0) (r1 := r1) (rest := rest) (by simp), heffect,
    directRead_ended, assemble]

/-- R112, R171: a command that is `singleWrite` completes with nothing but the outcome. -/
theorem writeCompletes_of_singleWrite {i : Instr} {bytes : List Byte}
    (hexec : ∀ s, exec i s = singleWrite (busWrite bytes) s) : WriteCompletes i bytes := by
  intro s ok rest hidle hin
  obtain ⟨-, hstep⟩ := hidle
  rw [List.singleton_append] at hin
  have haccept := (hexec s).trans (singleWrite_accept hstep)
  refine completes_succ haccept (completes_zero (by simp) ?_)
  rw [hexec, singleWrite_written rfl, onWrite_answer (s := s.start (busWrite bytes)) hin, singleWrite_ended]

/-- Settles O25: DIRECT is the two rows of `direct_read`, then RESULT. -/
theorem directCompletes : Obligations.DirectCompletes :=
  fun _ _ => readCompletes_of_directRead (fun _ => rfl) fun _ _ => rfl

/-- Settles O26: SUBCMD is a single bus write. -/
theorem subcmdCompletes : Obligations.SubcmdCompletes := fun _ _ _ => writeCompletes_of_singleWrite fun _ => rfl

/-- Settles O27: SUBRSP is the read of the response window. -/
theorem subrspCompletes : Obligations.SubrspCompletes :=
  readCompletes_of_directRead execSubrsp_eq_directRead fun _ _ => rfl

end Sys2Proof.Machine
end

section
/-! The step tables read back (20_memory.md R58, 30_encoding.md R87): which rows hold the payload frames and the
mode subcommands, and which commands request them (42_config_update.md R127 (b), (c)). -/

namespace Sys2Proof.Machine

open Claims

/-! What a row can be. -/

/-- The code or address in the three-byte frame that a command without a Data-Memory write begins with (R87). -/
def firstCode : Instr → Option Half
  | .subcmd h => some h
  | .setfet target state => some (fetCode target state)
  | .dmread addr => some addr
  | .cuEnter => some Config.scCuEnter
  | .cuExit => some Config.scCuExit
  | .csClr | .csPush _ | .csGet | .direct _ | .subrsp | .dmwrite _ _ | .cellv _ | .allcellv | .current | .itemp
  | .therm _ | .prot | .tempstat | .ischg | .isdsg | .decProt _ | .decTemp _ | .decFet _ | .setcov _ _ => none

/-- A request that names no code and no address: a one-byte write, a read, a delay. -/
def Request.Plain (r : Request) : Prop := (∃ op, r = frameDC op) ∨ (∃ n, r = busRead n) ∨ ∃ us, r = .delay us

theorem frameDC_plain (op : Byte) : (frameDC op).Plain := .inl ⟨op, rfl⟩

theorem busRead_plain (n : Nat) : (busRead n).Plain := .inr (.inl ⟨n, rfl⟩)

theorem delay_plain (us : Nat) : (Request.delay us).Plain := .inr (.inr ⟨us, rfl⟩)

theorem directEvent_plain {op : Byte} {k : Nat} {r : Request} (h : directEvent op k = some r) : r.Plain := by
  unfold directEvent at h
  split at h
  · cases h; exact frameDC_plain op
  · cases h; exact busRead_plain 2
  · cases h

/-- Everything a row of a step table can be: the frame of the command's code at step 1, a row of a Data-Memory write, or
a request that names no code. -/
theorem eventAt_cases {i : Instr} {k : Nat} {r : Request} (h : eventAt i k = some r) :
    (k = 1 ∧ ∃ code, firstCode i = some code ∧ r = frameSC code) ∨
    (∃ addr val row, bracketAt i k = some (addr, val, row) ∧ bracketEvent addr val row = some r) ∨ r.Plain := by
  cases i
  case csClr | csPush | csGet | decProt | decTemp | decFet => cases h
  case direct | cellv | current | itemp | therm | prot | tempstat | ischg | isdsg =>
    exact .inr (.inr (directEvent_plain h))
  case dmwrite | setcov =>
    obtain ⟨⟨addr, val, row⟩, hb, hr⟩ := Option.bind_eq_some_iff.1 h
    exact .inr (.inl ⟨addr, val, row, hb, hr⟩)
  all_goals
    simp only [eventAt] at h
    split at h
  case subcmd.isTrue h1 | setfet.isTrue h1 | dmread.isTrue h1 | cuEnter.isTrue h1 | cuExit.isTrue h1 =>
    cases h
    exact .inl ⟨h1, _, rfl, rfl⟩
  case subcmd.isFalse | setfet.isFalse => cases h
  case subrsp.isTrue => cases h; exact .inr (.inr (frameDC_plain _))
  case allcellv.isTrue =>
    split at h
    · cases h; exact .inr (.inr (frameDC_plain _))
    · cases h; exact .inr (.inr (busRead_plain 2))
  case allcellv.isFalse => cases h
  case subrsp.isFalse =>
    split at h
    · cases h; exact .inr (.inr (busRead_plain 2))
    · cases h
  case dmread.isFalse =>
    split at h
    · cases h; exact .inr (.inr (frameDC_plain _))
    · split at h
      · cases h; exact .inr (.inr (busRead_plain 1))
      · cases h
  case cuEnter.isFalse | cuExit.isFalse =>
    split at h
    · cases h; exact .inr (.inr (delay_plain _))
    · cases h

/-- The outstanding request is a row of the running command, and CSUM and the shadow are as that row needs (R24, R36). -/
theorem Inv.pending_row {s : State} {r : Request} (hs : Inv s) (hp : s.pending = some r) :
    s.busy = true ∧ ∃ i, decode s.cmd = some i ∧ eventAt i s.stepNo.toNat = some r ∧ bracketHolds s i := by
  have hb : s.busy = true := by
    by_contra hb
    rw [hs.idle_quiet (by simpa using hb)] at hp
    cases hp
  obtain ⟨i, hd, -, hrow, -, hbracket⟩ := hs.running hb
  exact ⟨hb, i, hd, hrow.symm.trans hp, hbracket⟩

/-! The payload frames of a Data-Memory write (R132). -/

/-- A four-byte write to `0x3E` or a three-byte write to `0x60` (R87). -/
def Request.Payload (r : Request) : Prop :=
  (∃ lo hi val, r = .write 0x10 [0x3E, lo, hi, val]) ∨ ∃ ck len, r = .write 0x10 [0x60, ck, len]

theorem frameSC_not_payload (code : Half) : ¬ (frameSC code).Payload := by
  simp [Request.Payload, frameSC, busWrite, Config.selCtrl]

theorem Request.Plain.not_payload {r : Request} (h : r.Plain) : ¬ r.Payload := by
  obtain ⟨op, rfl⟩ | ⟨n, rfl⟩ | ⟨us, rfl⟩ := h <;>
  simp [Request.Payload, frameDC, busWrite, busRead]

/-- Only the third and the fourth row of a Data-Memory write are payload frames. -/
theorem bracketEvent_payload {addr : Half} {val : Byte} {row : Nat} {r : Request}
    (h : bracketEvent addr val row = some r) (hr : r.Payload) : row = 2 ∨ row = 3 := by
  unfold bracketEvent at h
  split at h
  · cases h; exact absurd hr (frameSC_not_payload _)
  · cases h; exact absurd hr (delay_plain _).not_payload
  · exact .inl rfl
  · exact .inr rfl
  · cases h; exact absurd hr (frameSC_not_payload _)
  · cases h; exact absurd hr (delay_plain _).not_payload
  · cases h

/-- A payload frame is in the step tables only inside a Data-Memory write (R132, R174). -/
theorem eventAt_payload {i : Instr} {k : Nat} {r : Request} (h : eventAt i k = some r) (hr : r.Payload) :
    ∃ addr val row, bracketAt i k = some (addr, val, row) ∧ (row = 2 ∨ row = 3) := by
  obtain ⟨-, code, -, rfl⟩ | ⟨addr, val, row, hb, hev⟩ | hplain := eventAt_cases h
  · exact absurd hr (frameSC_not_payload code)
  · exact ⟨addr, val, row, hb, bracketEvent_payload hev hr⟩
  · exact absurd hr hplain.not_payload

/-- R127 (c): in every state with the invariant, an outstanding payload frame finds the shadow at ENTERED. -/
theorem Inv.entered_of_payload {s : State} {r : Request} (hs : Inv s) (hp : s.pending = some r) (hr : r.Payload) :
    s.cuMode = .entered := by
  obtain ⟨-, i, -, hrow, hbracket⟩ := hs.pending_row hp
  obtain ⟨addr, val, row, hb, hpayload⟩ := eventAt_payload hrow hr
  obtain ⟨-, -, hmode⟩ := hbracket addr val row hb
  exact hmode hpayload

/-- Settles O35: the step keeps the invariant, and the invariant has the shadow at ENTERED under a payload frame. -/
theorem payloadOnlyWhileEntered : Obligations.PayloadOnlyWhileEntered := by
  intro s t hs hstep hpayload
  have ht := everyStepKeepsTheInvariant s t hs hstep
  obtain ⟨lo, hi, val, hp⟩ | ⟨ck, len, hp⟩ := hpayload
  · exact ht.entered_of_payload hp (.inl ⟨lo, hi, val, rfl⟩)
  · exact ht.entered_of_payload hp (.inr ⟨ck, len, rfl⟩)

/-! The mode frames (R121, R122). -/

/-- The subcommand that leads to a mode (R7, R121, R122). -/
def modeCode : CuMode → Half
  | .entered => Config.scCuEnter
  | .exited => Config.scCuExit

/-- The command that is the transition to a mode and nothing else (R125, R126). -/
def modeCommand : CuMode → Instr
  | .entered => .cuEnter
  | .exited => .cuExit

/-- The row of a Data-Memory write that sends the subcommand of a mode (R132). -/
def modeRow : CuMode → Nat
  | .entered => 0
  | .exited => 4

/-- The two bytes of a code make the code again (R10, R56). -/
theorem assemble_lo8_hi8 (v : Half) : assemble (lo8 v) (hi8 v) = v :=
  (BitVec.extractLsb'_append_extractLsb'_eq_extractLsb' (len₁ := 8) rfl).trans BitVec.extractLsb'_eq_self

theorem frameSC_inj {c d : Half} : frameSC c = frameSC d ↔ c = d := by
  refine ⟨fun h => ?_, fun h => h ▸ rfl⟩
  obtain ⟨hlo, hhi⟩ : lo8 c = lo8 d ∧ hi8 c = hi8 d := by simpa [frameSC, busWrite] using h
  rw [← assemble_lo8_hi8 c, hlo, hhi, assemble_lo8_hi8]

theorem Request.Plain.ne_frameSC {r : Request} (h : r.Plain) (code : Half) : r ≠ frameSC code := by
  obtain ⟨op, rfl⟩ | ⟨n, rfl⟩ | ⟨us, rfl⟩ := h <;>
  simp [frameDC, frameSC, busWrite, busRead]

/-- Of the commands that begin with the subcommand of a mode one is the transition to it and one reads the Data-Memory
address of the same number; SUBCMD refuses it (R112, log entry 17). -/
theorem firstCode_eq_modeCode {i : Instr} {m : CuMode} (hwf : i.wf = true) (h : firstCode i = some (modeCode m)) :
    i = .dmread (modeCode m) ∨ i = modeCommand m := by
  cases i
  case subcmd code =>
    obtain rfl : code = modeCode m := by simpa [firstCode] using h
    cases m <;> cases hwf
  case setfet target state => revert h; cases target <;> cases state <;> cases m <;> decide
  case dmread addr =>
    obtain rfl : addr = modeCode m := by simpa [firstCode] using h
    exact .inl rfl
  case cuEnter | cuExit => revert h; cases m <;> decide
  all_goals cases h

/-- A Data-Memory write sends each mode's subcommand in one row (R132). -/
theorem bracketEvent_modeCode {addr : Half} {val : Byte} {row : Nat} {m : CuMode}
    (h : bracketEvent addr val row = some (frameSC (modeCode m))) : row = modeRow m := by
  unfold bracketEvent at h
  split at h
  · have hcode : Config.scCuEnter = modeCode m := by simpa [frameEnter, frameSC_inj] using h
    revert hcode; cases m <;> decide
  · exact absurd (Option.some.inj h) ((delay_plain _).ne_frameSC _)
  · simp [frameDMW, frameSC, busWrite] at h
  · simp [frameCKL, frameSC, busWrite, Config.selCklen, Config.selCtrl] at h
  · have hcode : Config.scCuExit = modeCode m := by simpa [frameExit, frameSC_inj] using h
    revert hcode; cases m <;> decide
  · exact absurd (Option.some.inj h) ((delay_plain _).ne_frameSC _)
  · cases h

/-- Where the subcommand of a mode is in the step tables (R121, R122, R127 (b), R132). -/
theorem eventAt_modeCode {i : Instr} {k : Nat} {m : CuMode} (hwf : i.wf = true)
    (h : eventAt i k = some (frameSC (modeCode m))) :
    i = .dmread (modeCode m) ∨ (i = modeCommand m ∧ k = 1) ∨
      ∃ addr val, bracketAt i k = some (addr, val, modeRow m) := by
  obtain ⟨h1, code, hcode, hr⟩ | ⟨addr, val, row, hb, hev⟩ | hplain := eventAt_cases h
  · obtain rfl : modeCode m = code := frameSC_inj.1 hr
    obtain hi | hi := firstCode_eq_modeCode hwf hcode
    · exact .inl hi
    · exact .inr (.inl ⟨hi, h1⟩)
  · obtain rfl := bracketEvent_modeCode hev
    exact .inr (.inr ⟨addr, val, hb⟩)
  · exact absurd rfl (hplain.ne_frameSC _)

theorem modeCommand_writesMode (m : CuMode) : writesMode (modeCommand m) = true := by cases m <;> rfl

/-! The traffic of the commands without a mode transition (R58, R127 (b)). -/

/-- The requests open to a command without a mode transition: the frame of its own code, or one that names no code. -/
def NamesOwnCode (i : Instr) (r : Request) : Prop := r.Plain ∨ ∃ code, firstCode i = some code ∧ r = frameSC code

section Traffic

variable {s : State} {allowed : Request → Prop}

/-- What a command does in its acceptance transition alone requests nothing (R25). -/
theorem onlyRequests_quiet {u : State} (h : u.trace = s.trace) : OnlyRequests s u.finish allowed :=
  ⟨[.done u.err u.fstep], by simp [h]⟩

theorem exec_quiet_onlyRequests {i : Instr} (hu : usesBus i = false) : NextIs (OnlyRequests s · allowed) (exec i s) := by
  cases i with
  | csClr | csPush | decProt | decTemp | decFet => exact nextIs_next (onlyRequests_quiet (by simp))
  | csGet =>
    refine nextIs_next ?_
    split
    · exact onlyRequests_quiet (by simp)
    · exact ⟨[.done .illegal 0], by simp⟩
  | _ => cases hu

/-- R112, R171: a single bus write requests it and nothing else. -/
theorem singleWrite_onlyRequests {r : Request} (h : allowed r) :
    NextIs (OnlyRequests s · allowed) (singleWrite r s) :=
  nextIs_singleWrite onlyRequests_refl (fun _ => onlyRequests_start h) fun _ ok rest =>
    onlyRequests_finish (.wrote ok) (by simp)

/-- R131: DMREAD requests its two writes and its read, and nothing else. -/
theorem execDmread_onlyRequests {addr : Half} (haddr : allowed (frameDMA addr)) (hresp : allowed frameRSP)
    (hread : allowed (busRead 1)) : NextIs (OnlyRequests s · allowed) (execDmread addr s) := by
  refine nextIs_execDmread onlyRequests_refl (fun _ => onlyRequests_start haddr) (fun _ ok rest => ?_)
    (fun _ ok rest => ?_) fun _ r0 rest => ?_
  · exact onlyRequests_issue (.wrote ok) (by simp) hresp
  · exact onlyRequests_issue (.wrote ok) (by simp) hread
  · exact onlyRequests_finish (.data [r0]) (by simp)

/-- A command without a mode transition names no code but its own. -/
theorem exec_namesOwnCode {i : Instr} (hw : writesMode i = false) :
    NextIs (OnlyRequests s · (NamesOwnCode i)) (exec i s) := by
  cases i with
  | csClr | csPush | csGet | decProt | decTemp | decFet => exact exec_quiet_onlyRequests rfl
  | direct | subrsp | cellv | current | itemp | therm | prot | tempstat | ischg | isdsg =>
    exact directRead_onlyRequests (.inl (frameDC_plain _)) (.inl (busRead_plain 2)) fun u => by simp
  | allcellv => exact execAllcellv_onlyRequests (fun op => .inl (frameDC_plain op)) (.inl (busRead_plain 2))
  | subcmd | setfet => exact singleWrite_onlyRequests (.inr ⟨_, rfl, rfl⟩)
  | dmread =>
    exact execDmread_onlyRequests (.inr ⟨_, rfl, rfl⟩) (.inl (frameDC_plain _)) (.inl (busRead_plain 1))
  | dmwrite | cuEnter | cuExit | setcov => cases hw

end Traffic

/-- R127 (b): the own code of a command without a mode transition is the subcommand of no mode, the address frame of the
same bytes apart (log entry 17). -/
theorem NamesOwnCode.ne_modeCode {i : Instr} {r : Request} (h : NamesOwnCode i r) (hwf : i.wf = true)
    (hw : writesMode i = false) (m : CuMode) : r ≠ frameSC (modeCode m) ∨ i = .dmread (modeCode m) := by
  obtain hplain | ⟨code, hcode, rfl⟩ := h
  · exact .inl (hplain.ne_frameSC _)
  by_cases hm : code = modeCode m
  · obtain hi | rfl := firstCode_eq_modeCode hwf (hm ▸ hcode)
    · exact .inr hi
    · simp [modeCommand_writesMode] at hw
  · exact .inl fun h => hm (frameSC_inj.1 h)

/-- Settles O34: such a command names no code but its own, and that is the subcommand of neither mode. -/
theorem onlyFourCommandsSendModeSubcommands : Obligations.OnlyFourCommandsSendModeSubcommands := by
  intro i s t hwf hx hw
  obtain ⟨es, htrace, hrequests⟩ := exec_namesOwnCode hw t hx
  refine ⟨es, htrace, fun r hr => ?_⟩
  have hmode := (hrequests r hr).ne_modeCode hwf hw
  exact ⟨hmode .entered, hmode .exited⟩

end Sys2Proof.Machine
end

section
/-! CU_ENTER and CU_EXIT, side by side: the write, the settle delay whatever the answer, the shadow
(42_config_update.md R121 to R127). -/

namespace Sys2Proof.Machine

open Claims

variable {s : State} {m : CuMode}

/-! The three transitions of a mode command (R125, R126). -/

theorem modeCommand_accept (h : s.stepNo = 0) :
    exec (modeCommand m) s = .next (s.start (frameSC (modeCode m))) := by
  cases m <;> simp [modeCommand, exec, execCuEnter, execCuExit, h] <;> rfl

theorem modeCommand_write (h : s.stepNo = 1) : exec (modeCommand m) s = modeWrite 1 (settleOf m) s := by
  cases m <;> simp [modeCommand, exec, execCuEnter, execCuExit, h] <;> rfl

theorem modeCommand_settle (h : s.stepNo = 2) :
    exec (modeCommand m) s = onDelay s fun t => (t.settle m).finish := by
  cases m <;> simp [modeCommand, exec, execCuEnter, execCuExit, h]

/-- What a mode command puts in the trace before its `done`. -/
def modeTrace (m : CuMode) (ok : Bool) : List Event :=
  [.request (frameSC (modeCode m)), .answered (.wrote ok), .request (settleOf m), .answered .delayOver]

/-- The state after the write, the delay and `done` of a mode command (R121, R122, R123). -/
theorem modeCommand_ended (s : State) (m : CuMode) (ok : Bool) (mid rest : List Input) :
    ((((({ (s.start (frameSC (modeCode m))).take (.wrote ok) mid with mack := ok } : State).noteNack 1 ok).issue 2
        (settleOf m)).take .delayOver rest).settle m).finish =
      { s.ended [(1, ok)] rest (modeTrace m ok) with mack := ok, cuMode := if ok then m else s.cuMode } := by
  rw [noteNack_eq_firstRefused one_ne_zero rfl rfl]
  cases ok <;>
  simp [State.start, State.begin, State.issue, State.take, State.settle, State.finish, State.ended, modeTrace]

/-- Both mode commands complete alike: the delay is waited whatever the answer, and the shadow follows the answer. -/
theorem modeCommand_completes (m : CuMode) (s : State) (ok : Bool) (rest : List Input) (hidle : Idle s)
    (hin : s.inputs = [.answer (.wrote ok), .answer .delayOver] ++ rest) :
    Completes (modeCommand m) 2 s
      { s.ended [(1, ok)] rest (modeTrace m ok) with mack := ok, cuMode := if ok then m else s.cuMode } := by
  obtain ⟨-, hstep⟩ := hidle
  rw [List.cons_append, List.singleton_append] at hin
  have hwritten := (modeCommand_write (m := m) (s := s.start (frameSC (modeCode m))) rfl).trans (onWrite_answer hin)
  refine completes_succ (modeCommand_accept hstep) (completes_succ hwritten (completes_zero (by simp) ?_))
  rw [modeCommand_settle rfl, onDelay_answer (rest := rest) (by simp), modeCommand_ended]

/-- Settles O29: CU_ENTER is the transition to ENTERED. -/
theorem cuEnterCompletes : Obligations.CuEnterCompletes := modeCommand_completes .entered

/-- Settles O30: CU_EXIT is the transition to EXITED. -/
theorem cuExitCompletes : Obligations.CuExitCompletes := modeCommand_completes .exited

/-! The settle delay follows the mode write (R127 (a)). -/

/-- A command inside a Data-Memory write makes the transition of that row (R132, R174). -/
theorem exec_of_bracketAt {i : Instr} {addr : Half} {val : Byte} {row : Nat}
    (h : bracketAt i s.stepNo.toNat = some (addr, val, row)) :
    ∃ n fin, exec i s = dmWriteSeq addr val n row fin s := by
  cases i
  case dmwrite =>
    simp only [bracketAt] at h
    split at h
    · obtain ⟨k, hk⟩ : ∃ k, s.stepNo.toNat = k + 1 := ⟨s.stepNo.toNat - 1, by omega⟩
      cases h
      exact ⟨1, State.finish, by simp [exec, execDmwrite, hk]⟩
    · cases h
  case setcov mv ms =>
    simp only [bracketAt] at h
    split at h
    · obtain ⟨k, hk⟩ : ∃ k, s.stepNo.toNat = k + 1 := ⟨s.stepNo.toNat - 1, by omega⟩
      have hk6 : k < 6 := by omega
      cases h
      exact ⟨1, (·.secondWrite (covDelay ms)), by simp [exec, execSetcov, hk, hk6]⟩
    split at h
    · obtain ⟨k, hk⟩ : ∃ k, s.stepNo.toNat = k + 7 := ⟨s.stepNo.toNat - 7, by omega⟩
      cases h
      exact ⟨7, State.finish, by simp [exec, execSetcov, hk]⟩
    · cases h
  all_goals cases h

/-- The row of a mode write: its answer brings its settle delay, whatever it is (R123 (a)). -/
theorem dmWriteSeq_modeRow (addr : Half) (val : Byte) (n : Nat) (fin : State → State) (s : State) (m : CuMode) :
    ∃ k, dmWriteSeq addr val n (modeRow m) fin s = modeWrite k (settleOf m) s := by
  cases m
  · exact ⟨_, rfl⟩
  · exact ⟨_, rfl⟩

theorem modeWrite_pending (n : Nat) (settle : Request) (s : State) :
    NextIs (fun t => t.pending = s.pending ∨ t.pending = some settle) (modeWrite n settle s) :=
  nextIs_modeWrite (.inl rfl) fun ok rest => .inr (by simp)

/-- A command whose mode write is outstanding keeps it or makes its settle delay the outstanding request. -/
theorem exec_modeWrite_pending {i : Instr} (hwf : i.wf = true) (hi : i ≠ .dmread (modeCode m))
    (hrow : eventAt i s.stepNo.toNat = some (frameSC (modeCode m))) :
    NextIs (fun t => t.pending = s.pending ∨ t.pending = some (settleOf m)) (exec i s) := by
  obtain hdm | ⟨rfl, h1⟩ | ⟨addr, val, hb⟩ := eventAt_modeCode hwf hrow
  · exact absurd hdm hi
  · rw [modeCommand_write (BitVec.eq_of_toNat_eq h1)]
    exact modeWrite_pending 1 _ s
  · obtain ⟨n, fin, hexec⟩ := exec_of_bracketAt hb
    obtain ⟨k, hwrite⟩ := dmWriteSeq_modeRow addr val n fin s m
    rw [hexec, hwrite]
    exact modeWrite_pending k _ s

/-- R127 (a), R66: the next request after a mode write is its settle delay; a Reset abandons the write. -/
theorem settle_follows_modeWrite {t : State} (hs : Inv s) (hstep : step s = .next t)
    (hp : s.pending = some (frameSC (modeCode m))) (hdm : decode s.cmd ≠ some (.dmread (modeCode m))) :
    t.pending = s.pending ∨ t.pending = some (settleOf m) ∨ (ResetNext s ∧ t.pending = none) := by
  obtain ⟨hb, i, hd, hrow, -⟩ := hs.pending_row hp
  obtain ⟨-, j, hj, hx⟩ | harrival := step_busy_cases hb hstep
  · obtain rfl : j = i := by simpa [hj] using hd
    have hi : j ≠ .dmread (modeCode m) := fun h => hdm (h ▸ hj)
    exact (exec_modeWrite_pending (decode_eq_some.1 hj).2 hi hrow t hx).imp_right .inl
  · obtain ⟨rest, hin, rfl⟩ | hsame := arrival_other harrival
    · exact .inr (.inr ⟨⟨rest, hin⟩, rfl⟩)
    · exact .inl hsame.pending

/-- Settles O33, for the transition to each mode. -/
theorem settleDelayFollowsModeWrite : Obligations.SettleDelayFollowsModeWrite :=
  ⟨fun _ _ => settle_follows_modeWrite (m := .entered), fun _ _ => settle_follows_modeWrite (m := .exited)⟩

end Sys2Proof.Machine
end

section
/-! The CUSM shadow as seen by the commands: none of them reads it (42_config_update.md R124). -/

namespace Sys2Proof.Machine

/-- The state with the shadow blanked out. -/
def State.blankMode (s : State) : State := { s with cuMode := .exited }

/-- An update of the state that does not read the shadow: with it blanked out before, the result is the same, the shadow
apart. -/
def Blind (f : State → State) : Prop := ∀ s : State, (f s.blankMode).blankMode = (f s).blankMode

/-- A transition that does not read the shadow. -/
def ModeBlind (f : State → Result) : Prop :=
  ∀ s : State, mapNext State.blankMode (f s.blankMode) = mapNext State.blankMode (f s)

section Fields

variable (s : State)

@[simp] theorem blankMode_stepNo : s.blankMode.stepNo = s.stepNo := rfl
@[simp] theorem blankMode_inputs : s.blankMode.inputs = s.inputs := rfl
@[simp] theorem blankMode_err : s.blankMode.err = s.err := rfl
@[simp] theorem blankMode_mack : s.blankMode.mack = s.mack := rfl
@[simp] theorem blankMode_seeded : s.blankMode.seeded = s.seeded := rfl

end Fields

/-! The updates of a row. Most of them leave the shadow alone, and then blanking it out commutes by computation. -/

theorem Blind.comp {f g : State → State} (hg : Blind g) (hf : Blind f) : Blind fun s => g (f s) := fun s => by
  rw [← hg (f s.blankMode), hf, hg]

theorem blind_issue (n : Nat) (r : Request) : Blind (·.issue n r) := fun _ => rfl

theorem blind_take (a : Answer) (rest : List Input) : Blind (·.take a rest) := fun _ => rfl

theorem blind_received (a : Answer) (rest : List Input) (v : Half) : Blind ({ ·.take a rest with raw := v }) :=
  fun _ => rfl

theorem blind_finish : Blind State.finish := fun _ => rfl

theorem blind_setMack (ok : Bool) : Blind ({ · with mack := ok }) := fun _ => rfl

theorem blind_noteNack (n : Nat) (ok : Bool) : Blind (·.noteNack n ok) := by
  intro s
  dsimp only [State.noteNack]
  rw [blankMode_err]
  split
  · rfl
  · split <;> rfl

/-- The end of a settle delay moves nothing but the shadow. -/
theorem settle_blankMode (s : State) (m : CuMode) : (s.settle m).blankMode = s.blankMode := by
  unfold State.settle
  split <;> rfl

theorem blind_settle (m : CuMode) : Blind (·.settle m) := fun s => by
  rw [settle_blankMode, settle_blankMode]; rfl

theorem blind_secondWrite (d : Byte) : Blind (·.secondWrite d) := fun _ => rfl

/-! The shared operations of the step tables. -/

theorem modeBlind_next {f : State → State} (hf : Blind f) : ModeBlind fun s => .next (f s) :=
  fun s => congrArg Host.Outcome.next (hf s)

theorem onWrite_modeBlind {k : Bool → State → State} (hk : ∀ ok, Blind (k ok)) : ModeBlind fun s => onWrite s k := by
  intro s
  dsimp only [onWrite]
  rw [blankMode_inputs]
  split
  · exact modeBlind_next ((hk _).comp (blind_take _ _)) s
  · rfl

theorem onRead2_modeBlind {k : State → State} (hk : Blind k) : ModeBlind fun s => onRead2 s k := by
  intro s
  dsimp only [onRead2]
  rw [blankMode_inputs]
  split
  · exact modeBlind_next (hk.comp (blind_received _ _ _)) s
  · rfl

theorem onRead1_modeBlind {k : Byte → State → State} (hk : ∀ r0, Blind (k r0)) : ModeBlind fun s => onRead1 s k := by
  intro s
  dsimp only [onRead1]
  rw [blankMode_inputs]
  split
  · exact modeBlind_next ((hk _).comp (blind_received _ _ _)) s
  · rfl

theorem onDelay_modeBlind {k : State → State} (hk : Blind k) : ModeBlind fun s => onDelay s k := by
  intro s
  dsimp only [onDelay]
  rw [blankMode_inputs]
  split
  · exact modeBlind_next (hk.comp (blind_take _ _)) s
  · rfl

theorem directRead_modeBlind (op : Byte) {fin : State → State} (hfin : Blind fin) : ModeBlind (directRead op fin) := by
  intro s
  unfold directRead
  rw [blankMode_stepNo]
  split
  · rfl
  · exact onWrite_modeBlind (fun ok => (blind_issue 2 _).comp (blind_noteNack 1 ok)) s
  · exact onRead2_modeBlind (blind_finish.comp hfin) s
  · rfl

theorem singleWrite_modeBlind (r : Request) : ModeBlind (singleWrite r) := by
  intro s
  unfold singleWrite
  rw [blankMode_stepNo]
  split
  · rfl
  · exact onWrite_modeBlind (fun ok => blind_finish.comp (blind_noteNack 1 ok)) s
  · rfl

theorem modeWrite_modeBlind (n : Nat) (settle : Request) : ModeBlind (modeWrite n settle) :=
  onWrite_modeBlind fun ok => (blind_issue (n + 1) settle).comp ((blind_noteNack n ok).comp (blind_setMack ok))

/-- What follows the delay after an ENTER write depends on its answer, not on the shadow (R132, R134). -/
theorem blind_ite_mack {f g : State → State} (hf : Blind f) (hg : Blind g) :
    Blind fun t => if t.mack then f t else g t := by
  intro s
  dsimp only
  rw [blankMode_mack]
  split
  · exact hf s
  · exact hg s

theorem dmWriteSeq_modeBlind (addr : Half) (val : Byte) (n k : Nat) {fin : State → State} (hfin : Blind fin) :
    ModeBlind (dmWriteSeq addr val n k fin) := by
  unfold dmWriteSeq
  split
  · exact modeWrite_modeBlind n settleEnter
  · exact onDelay_modeBlind
      (blind_ite_mack ((blind_issue (n + 2) _).comp (blind_settle .entered)) (blind_issue (n + 4) _))
  · refine onWrite_modeBlind fun ok => ?_
    cases ok with
    | true => exact fun _ => rfl
    | false => exact (blind_issue (n + 4) _).comp (blind_noteNack (n + 2) false)
  · exact onWrite_modeBlind fun ok => (blind_issue (n + 4) _).comp (blind_noteNack (n + 3) ok)
  · exact modeWrite_modeBlind (n + 4) settleExit
  · exact onDelay_modeBlind (hfin.comp (blind_settle .exited))
  · exact fun _ => rfl

/-! The commands that are not one shared operation. -/

theorem execCsGet_modeBlind : ModeBlind execCsGet := by
  intro s
  unfold execCsGet
  rw [blankMode_seeded]
  split <;> rfl

theorem execDmread_modeBlind (addr : Half) : ModeBlind (execDmread addr) := by
  intro s
  unfold execDmread
  rw [blankMode_stepNo]
  split
  · rfl
  · exact onWrite_modeBlind (fun ok => (blind_issue 2 _).comp (blind_noteNack 1 ok)) s
  · exact onWrite_modeBlind (fun ok => (blind_issue 3 _).comp (blind_noteNack 2 ok)) s
  · exact onRead1_modeBlind (fun _ _ => rfl) s
  · rfl

theorem execAllcellv_modeBlind : ModeBlind execAllcellv := by
  intro s
  dsimp only [execAllcellv]
  rw [blankMode_stepNo]
  generalize s.stepNo.toNat = k
  split
  · rfl
  split
  · split
    · exact onWrite_modeBlind (fun ok => (blind_issue (k + 1) _).comp (blind_noteNack k ok)) s
    · refine onRead2_modeBlind ?_ s
      split
      · exact fun _ => rfl
      · exact fun _ => rfl
  · rfl

theorem execCuEnter_modeBlind : ModeBlind execCuEnter := by
  intro s
  unfold execCuEnter
  rw [blankMode_stepNo]
  split
  · rfl
  · exact modeWrite_modeBlind 1 settleEnter s
  · exact onDelay_modeBlind (blind_finish.comp (blind_settle .entered)) s
  · rfl

theorem execCuExit_modeBlind : ModeBlind execCuExit := by
  intro s
  unfold execCuExit
  rw [blankMode_stepNo]
  split
  · rfl
  · exact modeWrite_modeBlind 1 settleExit s
  · exact onDelay_modeBlind (blind_finish.comp (blind_settle .exited)) s
  · rfl

theorem execDmwrite_modeBlind (addr : Half) (val : Byte) : ModeBlind (execDmwrite addr val) := by
  intro s
  unfold execDmwrite
  rw [blankMode_stepNo]
  split
  · rfl
  · exact dmWriteSeq_modeBlind addr val 1 _ blind_finish s

theorem execSetcov_modeBlind (mv ms : Half) : ModeBlind (execSetcov mv ms) := by
  intro s
  unfold execSetcov
  rw [blankMode_stepNo]
  split
  · rfl
  · split
    · exact dmWriteSeq_modeBlind _ _ 1 _ (blind_secondWrite _) s
    · exact dmWriteSeq_modeBlind _ _ 7 _ blind_finish s

/-- R124: no command reads the shadow. -/
theorem exec_modeBlind (i : Instr) : ModeBlind (exec i) := by
  cases i with
  | csClr | csPush | decProt | decTemp | decFet => exact modeBlind_next fun _ => rfl
  | csGet => exact execCsGet_modeBlind
  | direct | subrsp | cellv | current | itemp | therm | prot | tempstat | ischg | isdsg =>
    exact directRead_modeBlind _ fun _ => rfl
  | subcmd | setfet => exact singleWrite_modeBlind _
  | dmread addr => exact execDmread_modeBlind addr
  | dmwrite addr val => exact execDmwrite_modeBlind addr val
  | cuEnter => exact execCuEnter_modeBlind
  | cuExit => exact execCuExit_modeBlind
  | allcellv => exact execAllcellv_modeBlind
  | setcov mv ms => exact execSetcov_modeBlind mv ms

/-- Settles O32: two states that differ in the shadow alone have it blanked out to the same state. -/
theorem noCommandReadsTheShadow : Obligations.NoCommandReadsTheShadow := fun i s m =>
  (exec_modeBlind i { s with cuMode := m }).symm.trans (exec_modeBlind i s)

end Sys2Proof.Machine
end

section
/-! A command on its way through its step table: the state between an answer and the next request, written as claims
write its end (R24, R180), and what each answer makes of it. -/

namespace Sys2Proof.Machine

/-- R181: the first refusal of two runs of writes is that of the first run, if it has one. -/
theorem firstRefused_append {ws : List (Nat × Bool)} (hws : 0 ∉ ws.map Prod.fst) (vs : List (Nat × Bool)) :
    firstRefused (ws ++ vs) = if firstRefused ws = 0 then firstRefused vs else firstRefused ws := by
  induction ws with
  | nil => rfl
  | cons w ws ih =>
    obtain ⟨n, ok⟩ := w
    rw [List.map_cons, List.mem_cons, not_or] at hws
    obtain ⟨hn, hws⟩ := hws
    cases ok with
    | true => exact ih hws
    | false => exact (if_neg (Ne.symm hn)).symm

theorem outcomeOf_eq_ok_iff {n : Nat} : outcomeOf n = .ok ↔ n = 0 := by
  unfold outcomeOf
  split <;> simp_all

/-- The state `s` under a command that has the answer of its step `k` and has yet to issue the next event: the outcome
of its writes so far, the answers used up, its events in the trace (R24, R180). `State.ended` is its `done`. -/
def State.going (s : State) (k : Nat) (writes : List (Nat × Bool)) (rest : List Input) (events : List Event) : State :=
  { s with
    busy := true
    stepNo := BitVec.ofNat 6 k
    pending := none
    err := outcomeOf (firstRefused writes)
    fstep := BitVec.ofNat 6 (firstRefused writes)
    inputs := rest
    trace := s.trace ++ events }

section Going

variable {s : State} {j k : Nat} {writes : List (Nat × Bool)} {rest : List Input} {events : List Event}

theorem going_finish : (s.going k writes rest events).finish = s.ended writes rest events := rfl

/-- R25: the acceptance of a command with interface events. -/
theorem start_eq_going (s : State) (r : Request) : s.start r = (s.going 0 [] s.inputs []).issue 1 r := by
  simp [State.start, State.begin, State.issue, State.going, firstRefused, outcomeOf]

/-- R181: the answer of a write joins the writes whose first refusal is the outcome. -/
theorem going_noteNack (hk : k ≠ 0) (hws : 0 ∉ writes.map Prod.fst) (ok : Bool) :
    (s.going j writes rest events).noteNack k ok = s.going j (writes ++ [(k, ok)]) rest events := by
  have happend := firstRefused_append hws [(k, ok)]
  by_cases h0 : firstRefused writes = 0
  · have hok : (s.going j writes rest events).err = .ok := outcomeOf_eq_ok_iff.2 h0
    rw [if_pos h0] at happend
    cases ok with
    | true => simp only [State.noteNack_ok, State.going, happend, h0, firstRefused, if_true]
    | false =>
      rw [State.noteNack_first _ _ hok]
      simp [State.going, happend, firstRefused, outcomeOf, hk]
  · have hnack : (s.going j writes rest events).err ≠ .ok := fun h => h0 (outcomeOf_eq_ok_iff.1 h)
    rw [State.noteNack_later _ _ _ hnack]
    simp only [State.going, happend, if_neg h0]

/-- R192 (b): the answer of the write of step `k`. -/
theorem onWrite_going (f : Bool → State → State) (bytes : List Byte) (ok : Bool) :
    onWrite ((s.going j writes (.answer (.wrote ok) :: rest) events).issue k (busWrite bytes)) f =
      .next (f ok (s.going k writes rest (events ++ bw bytes ok))) := by
  rw [onWrite_answer rfl]
  simp [State.going, State.issue, State.take, bw, busWrite, Config.devWr]

/-- R181, R192 (b): a row that notes the answer of its write and goes on whatever it is. -/
theorem onWrite_noteNack_going (hk : k ≠ 0) (hws : 0 ∉ writes.map Prod.fst) (bytes : List Byte) (ok : Bool)
    (m : Nat) (r : Request) :
    onWrite ((s.going j writes (.answer (.wrote ok) :: rest) events).issue k (busWrite bytes))
        (fun ok t => (t.noteNack k ok).issue m r) =
      .next ((s.going k (writes ++ [(k, ok)]) rest (events ++ bw bytes ok)).issue m r) := by
  rw [onWrite_going, going_noteNack hk hws]

/-- R192 (c), R30: the answer of the one-byte read of step `k`. -/
theorem onRead1_going (f : Byte → State → State) (r0 : Byte) :
    onRead1 ((s.going j writes (.answer (.data [r0]) :: rest) events).issue k (busRead 1)) f =
      .next (f r0 ({ s with raw := r0.setWidth 16 }.going k writes rest (events ++ br 1 [r0]))) := by
  rw [onRead1_answer rfl]
  simp [State.going, State.issue, State.take, br, busRead, Config.devRd]

/-- R193: the end of the delay of step `k`. -/
theorem onDelay_going (f : State → State) (us : Nat) :
    onDelay ((s.going j writes (.answer .delayOver :: rest) events).issue k (.delay us)) f =
      .next (f (s.going k writes rest (events ++ dly us))) := by
  rw [onDelay_answer rfl]
  simp [State.going, State.issue, State.take, dly]

/-- R121, R122: the answer of the ENTER or EXIT write of step `k`. -/
theorem modeWrite_going (hk : k ≠ 0) (hws : 0 ∉ writes.map Prod.fst) (settle : Request) (bytes : List Byte)
    (ok : Bool) :
    modeWrite k settle ((s.going j writes (.answer (.wrote ok) :: rest) events).issue k (busWrite bytes)) =
      .next (({ s with mack := ok }.going k (writes ++ [(k, ok)]) rest (events ++ bw bytes ok)).issue (k + 1)
        settle) := by
  rw [modeWrite, onWrite_going]
  exact congrArg (fun t : State => Host.Outcome.next (t.issue (k + 1) settle))
    (going_noteNack (s := { s with mack := ok }) hk hws ok)

/-- R121, R122, R28: the shadow at the end of a settle delay. -/
theorem going_settle (m : CuMode) :
    (s.going k writes rest events).settle m =
      { s with cuMode := if s.mack then m else s.cuMode }.going k writes rest events := by
  unfold State.settle
  show (if s.mack then _ else _) = _
  split <;> rfl

end Going

end Sys2Proof.Machine
end

section
/-! DMREAD, and CSUM before a Data-Memory write (43_data_memory.md R131, R133). -/

namespace Sys2Proof.Machine

/-- Settles O24: the clear and the five pushes, and the closed form of their fold. -/
theorem csumLoadClosedForm : Obligations.CsumLoadClosedForm := fun s addr val =>
  ⟨(s.csumLoad_eq addr val).trans (by rw [csumAcc_dmChecksum]), (csumAcc_dmChecksum addr val).symm⟩

/-! The four transitions of DMREAD (R131). -/

section Dmread

variable {addr : Half} {s : State}

theorem dmread_accept (h : s.stepNo = 0) : exec (.dmread addr) s = .next (s.start (frameDMA addr)) := by
  simp [exec, execDmread, h]

theorem dmread_addressed (h : s.stepNo = 1) :
    exec (.dmread addr) s = onWrite s fun ok t => (t.noteNack 1 ok).issue 2 frameRSP := by
  simp [exec, execDmread, h]

theorem dmread_selected (h : s.stepNo = 2) :
    exec (.dmread addr) s = onWrite s fun ok t => (t.noteNack 2 ok).issue 3 (busRead 1) := by
  simp [exec, execDmread, h]

theorem dmread_received (h : s.stepNo = 3) :
    exec (.dmread addr) s = onRead1 s fun r0 t => (t.setResult (r0.setWidth 32)).finish := by
  simp [exec, execDmread, h]

end Dmread

/-- Settles O36: the three rows of DMREAD, each taking its answer. -/
theorem dmreadCompletes : Obligations.DmreadCompletes := by
  rintro addr s ok1 ok2 r0 rest ⟨-, hstep⟩ hin
  have haccept := dmread_accept (addr := addr) hstep
  rw [start_eq_going, hin] at haccept
  refine completes_succ haccept (completes_succ ((dmread_addressed rfl).trans
    (onWrite_noteNack_going (by decide) (by decide) ..)) ?_)
  refine completes_succ ((dmread_selected rfl).trans (onWrite_noteNack_going (by decide) (by simp) ..)) ?_
  exact completes_zero rfl ((dmread_received rfl).trans (onRead1_going ..))

end Sys2Proof.Machine
end

section
/-! The Data-Memory write (43_data_memory.md R132 to R134): the six rows of `dm_write_seq` under every pattern of
answers, for any command that has them, and DMWRITE. -/

namespace Sys2Proof.Machine

/-! The part of a Data-Memory write between its ENTER and its EXIT: what `bracketAnswers`, `bracketTrace` and
`bracketWrites` say of it. -/

/-- The answers to DMW and CKL. -/
def payloadAnswers (enter dmw ckl : Bool) : List Input :=
  if enter then .answer (.wrote dmw) :: (if dmw then [.answer (.wrote ckl)] else []) else []

/-- The events of DMW and CKL. -/
def payloadTrace (addr : Half) (val ck : Byte) (enter dmw ckl : Bool) : List Event :=
  if enter then
    bw [0x3E, addr.extractLsb' 0 8, addr.extractLsb' 8 8, val] dmw ++ (if dmw then bw [0x60, ck, 0x05] ckl else [])
  else []

/-- The writes DMW and CKL with their step numbers. -/
def payloadWrites (n : Nat) (enter dmw ckl : Bool) : List (Nat × Bool) :=
  if enter then (n + 2, dmw) :: (if dmw then [(n + 3, ckl)] else []) else []

theorem bracketAnswers_append (enter dmw ckl exit : Bool) (rest : List Input) :
    bracketAnswers enter dmw ckl exit ++ rest = .answer (.wrote enter) :: .answer .delayOver ::
      (payloadAnswers enter dmw ckl ++ .answer (.wrote exit) :: .answer .delayOver :: rest) := by
  simp [bracketAnswers, payloadAnswers]

theorem length_bracketAnswers (enter dmw ckl exit : Bool) :
    (bracketAnswers enter dmw ckl exit).length = (payloadAnswers enter dmw ckl).length + 4 := by
  simp [bracketAnswers, payloadAnswers]

theorem bracketTrace_eq (addr : Half) (val ck : Byte) (enter dmw ckl exit : Bool) :
    bracketTrace addr val ck enter dmw ckl exit =
      bw [0x3E, 0x90, 0x00] enter ++ dly 2000 ++ payloadTrace addr val ck enter dmw ckl ++
        bw [0x3E, 0x92, 0x00] exit ++ dly 1000 := rfl

theorem bracketWrites_eq (n : Nat) (enter dmw ckl exit : Bool) :
    bracketWrites n enter dmw ckl exit = (n, enter) :: payloadWrites n enter dmw ckl ++ [(n + 4, exit)] := rfl

/-- Steps `n` to `n + 5` of `i` are the rows of one Data-Memory write, and `fin` follows them (R132, R174). -/
def WritesDataMemory (i : Instr) (n : Nat) (addr : Half) (val : Byte) (fin : State → State) : Prop :=
  ∀ j < 6, ∀ u : State, u.stepNo = BitVec.ofNat 6 (n + j) → exec i u = dmWriteSeq addr val n j fin u

section Bracket

variable {i : Instr} {n j : Nat} {addr : Half} {val : Byte} {fin : State → State} {s : State}
  {writes : List (Nat × Bool)} {rest : List Input} {events : List Event} {t : State}
  (hi : WritesDataMemory i n addr val fin)

include hi

/-- R122, R134 (d): the EXIT write and its delay end the Data-Memory write. -/
theorem exitWrite_completes (hws : 0 ∉ writes.map Prod.fst) (exit : Bool)
    (ht : t = fin ({ s with mack := exit, cuMode := if exit then .exited else s.cuMode }.going (n + 5)
      (writes ++ [(n + 4, exit)]) rest (events ++ bw [0x3E, 0x92, 0x00] exit ++ dly 1000))) :
    Completes i 1
      ((s.going j writes (.answer (.wrote exit) :: .answer .delayOver :: rest) events).issue (n + 4) frameExit) t := by
  subst ht
  have hframe : frameExit = busWrite [0x3E, 0x92, 0x00] := rfl
  rw [hframe]
  refine completes_succ ((hi 4 (by decide) _ rfl).trans (modeWrite_going (Nat.succ_ne_zero _) hws ..)) ?_
  refine completes_zero rfl ?_
  rw [hi 5 (by decide) _ rfl, dmWriteSeq, settleExit, onDelay_going, going_settle]
  rfl

/-- R134 (a): a refused ENTER skips the payload. -/
theorem exec_settle_refused (hmack : s.mack = false) :
    exec i ((s.going j writes (.answer .delayOver :: rest) events).issue (n + 1) settleEnter) =
      .next ((s.going (n + 1) writes rest (events ++ dly 2000)).issue (n + 4) frameExit) := by
  rw [hi 1 (by decide) _ rfl, dmWriteSeq, settleEnter, onDelay_going]
  exact congrArg _ (if_neg (by simp [State.going, hmack]))

/-- R121: the payload goes out once the ENTER is acknowledged and its delay is over. -/
theorem exec_settle_entered (hmack : s.mack = true) :
    exec i ((s.going j writes (.answer .delayOver :: rest) events).issue (n + 1) settleEnter) =
      .next (({ s with cuMode := .entered }.going (n + 1) writes rest (events ++ dly 2000)).issue (n + 2)
        (frameDMW addr val)) := by
  rw [hi 1 (by decide) _ rfl, dmWriteSeq, settleEnter, onDelay_going]
  refine congrArg _ ((if_pos (by simp [State.going, hmack])).trans ?_)
  rw [going_settle, if_pos hmack]
  rfl

/-- R134 (b): a refused DMW skips the CKL write. -/
theorem exec_payload_refused (hws : 0 ∉ writes.map Prod.fst) :
    exec i ((s.going j writes (.answer (.wrote false) :: rest) events).issue (n + 2) (frameDMW addr val)) =
      .next ((s.going (n + 2) (writes ++ [(n + 2, false)]) rest
        (events ++ bw [0x3E, addr.extractLsb' 0 8, addr.extractLsb' 8 8, val] false)).issue (n + 4) frameExit) := by
  rw [hi 2 (by decide) _ rfl, dmWriteSeq, frameDMW, onWrite_going]
  exact congrArg (fun t : State => Host.Outcome.next (t.issue (n + 4) frameExit))
    (going_noteNack (Nat.succ_ne_zero _) hws false)

/-- R132: the checksum goes out after an acknowledged DMW. -/
theorem exec_payload_written (hws : 0 ∉ writes.map Prod.fst) :
    exec i ((s.going j writes (.answer (.wrote true) :: rest) events).issue (n + 2) (frameDMW addr val)) =
      .next ((s.going (n + 2) (writes ++ [(n + 2, true)]) rest
        (events ++ bw [0x3E, addr.extractLsb' 0 8, addr.extractLsb' 8 8, val] true)).issue (n + 3)
          (frameCKL (~~~s.acc))) := by
  rw [hi 2 (by decide) _ rfl, dmWriteSeq, frameDMW, onWrite_going]
  exact congrArg (fun t : State => Host.Outcome.next (t.issue (n + 3) (frameCKL (~~~s.acc))))
    (going_noteNack (Nat.succ_ne_zero _) hws true)

/-- R134 (c): the EXIT write follows the CKL write, whatever its answer. -/
theorem exec_commit (hws : 0 ∉ writes.map Prod.fst) (ck : Byte) (ok : Bool) :
    exec i ((s.going j writes (.answer (.wrote ok) :: rest) events).issue (n + 3) (frameCKL ck)) =
      .next ((s.going (n + 3) (writes ++ [(n + 3, ok)]) rest (events ++ bw [0x60, ck, 0x05] ok)).issue (n + 4)
        frameExit) := by
  rw [hi 3 (by decide) _ rfl, dmWriteSeq, frameCKL]
  exact onWrite_noteNack_going (Nat.succ_ne_zero _) hws ..

/-- R134: from the settle delay of ENTER on. A refused ENTER goes to the EXIT write, so does a refused DMW; else CKL is
sent, and the EXIT write follows whatever its answer. -/
theorem enterDelay_completes (hws : 0 ∉ writes.map Prod.fst) (enter dmw ckl exit : Bool) (hmack : s.mack = enter)
    (ht : t = fin ({ s with mack := exit, cuMode := bracketMode s.cuMode enter exit }.going (n + 5)
      (writes ++ payloadWrites n enter dmw ckl ++ [(n + 4, exit)]) rest
      (events ++ dly 2000 ++ payloadTrace addr val (~~~s.acc) enter dmw ckl ++
        bw [0x3E, 0x92, 0x00] exit ++ dly 1000))) :
    Completes i ((payloadAnswers enter dmw ckl).length + 2)
      ((s.going j writes (.answer .delayOver :: (payloadAnswers enter dmw ckl ++
        .answer (.wrote exit) :: .answer .delayOver :: rest)) events).issue (n + 1) settleEnter) t := by
  subst ht
  cases enter with
  | false =>
    refine completes_succ (exec_settle_refused hi hmack) ?_
    exact exitWrite_completes hi hws exit (by simp [payloadTrace, payloadWrites, bracketMode])
  | true =>
    refine completes_succ (exec_settle_entered hi hmack) ?_
    cases dmw with
    | false =>
      refine completes_succ (exec_payload_refused hi hws) ?_
      exact exitWrite_completes hi (by simpa using hws) exit (by simp [payloadTrace, payloadWrites, bracketMode])
    | true =>
      refine completes_succ (exec_payload_written hi hws) (completes_succ (exec_commit hi (by simpa using hws) ..) ?_)
      exact exitWrite_completes hi (by simpa using hws) exit (by simp [payloadTrace, payloadWrites, bracketMode])

/-- R132 to R134: the whole Data-Memory write, from its ENTER on. -/
theorem enterWrite_completes (hn : n ≠ 0) (hws : 0 ∉ writes.map Prod.fst) (enter dmw ckl exit : Bool)
    (ht : t = fin ({ s with mack := exit, cuMode := bracketMode s.cuMode enter exit }.going (n + 5)
      (writes ++ bracketWrites n enter dmw ckl exit) rest
      (events ++ bracketTrace addr val (~~~s.acc) enter dmw ckl exit))) :
    Completes i ((payloadAnswers enter dmw ckl).length + 3)
      ((s.going j writes (bracketAnswers enter dmw ckl exit ++ rest) events).issue n frameEnter) t := by
  subst ht
  have hframe : frameEnter = busWrite [0x3E, 0x90, 0x00] := rfl
  rw [hframe, bracketAnswers_append]
  refine completes_succ ((hi 0 (by decide) _ rfl).trans (modeWrite_going hn hws ..)) ?_
  refine enterDelay_completes hi (by simpa [hn.symm] using hws) enter dmw ckl exit rfl ?_
  simp [bracketTrace_eq, bracketWrites_eq]

end Bracket

/-- R132: the rows of DMWRITE are one Data-Memory write, and `done` follows them. -/
theorem dmwrite_writesDataMemory (addr : Half) (val : Byte) :
    WritesDataMemory (.dmwrite addr val) 1 addr val State.finish := by
  intro j hj u hu
  have hrow : u.stepNo.toNat = j + 1 := by
    rw [hu, BitVec.toNat_ofNat]
    omega
  simp only [exec, execDmwrite, hrow]

theorem dmwrite_accept {addr : Half} {val : Byte} {s : State} (h : s.stepNo = 0) :
    exec (.dmwrite addr val) s = .next ((s.csumLoad addr val).start frameEnter) := by
  simp [exec, execDmwrite, h]

/-- Settles O37: CSUM is filled, and the six rows follow. -/
theorem dmwriteCompletes : Obligations.DmwriteCompletes := by
  rintro addr val s enter dmw ckl exit rest ⟨-, hstep⟩ hin
  have haccept := dmwrite_accept (addr := addr) (val := val) hstep
  rw [start_eq_going, s.csumLoad_inputs, hin, (csumLoadClosedForm s addr val).1] at haccept
  rw [length_bracketAnswers]
  exact completes_succ haccept
    (enterWrite_completes (dmwrite_writesDataMemory addr val) one_ne_zero (by simp) enter dmw ckl exit
      (by rw [going_finish]; rfl))

/-! The requests and the outcome of a Data-Memory write (R134). -/

theorem requestsOf_append (es fs : List Event) : requestsOf (es ++ fs) = requestsOf es ++ requestsOf fs :=
  List.filterMap_append

@[simp] theorem requestsOf_bw (bytes : List Byte) (ok : Bool) : requestsOf (bw bytes ok) = [.write 0x10 bytes] := rfl

@[simp] theorem requestsOf_dly (us : Nat) : requestsOf (dly us) = [.delay us] := rfl

@[simp] theorem requestsOf_done (e : Err) (n : BitVec 6) : requestsOf [.done e n] = [] := rfl

/-- R134: the payload writes sent are those up to the first refusal. -/
theorem requestsOf_payloadTrace (addr : Half) (val ck : Byte) (enter dmw ckl : Bool) :
    requestsOf (payloadTrace addr val ck enter dmw ckl) =
      if enter = false then []
      else if dmw = false then [.write 0x10 [0x3E, addr.extractLsb' 0 8, addr.extractLsb' 8 8, val]]
      else [.write 0x10 [0x3E, addr.extractLsb' 0 8, addr.extractLsb' 8 8, val], .write 0x10 [0x60, ck, 0x05]] := by
  cases enter with
  | false => rfl
  | true => cases dmw <;> rfl

/-- R134: the first refused of the four writes. -/
theorem firstRefused_bracketWrites (n : Nat) (enter dmw ckl exit : Bool) :
    firstRefused (bracketWrites n enter dmw ckl exit) =
      if enter = false then n else if dmw = false then n + 2 else if ckl = false then n + 3
      else if exit = false then n + 4 else 0 := by
  cases enter with
  | false => rfl
  | true =>
    cases dmw with
    | false => rfl
    | true =>
      cases ckl with
      | false => rfl
      | true => cases exit <;> rfl

/-- Settles O38: the requests of the trace of O37, and the first refusal among its writes. -/
theorem dmwriteBracketsItsPayload : Obligations.DmwriteBracketsItsPayload := by
  intro addr val s enter dmw ckl exit rest hidle hin
  refine ⟨_, _, ~~~dmAcc addr val, dmwriteCompletes addr val s enter dmw ckl exit rest hidle hin,
    List.append_assoc .., ?_, ?_⟩
  · simp only [requestsOf_append, bracketTrace_eq, requestsOf_payloadTrace, requestsOf_bw, requestsOf_dly,
      requestsOf_done, List.append_nil, List.append_assoc, List.cons_append, List.nil_append]
  · simp only [State.ended, firstRefused_bracketWrites]
    split_ifs <;> rfl

end Sys2Proof.Machine
end

section
/-! CELLV, CURRENT, ITEMP and THERM as Direct Command reads, and the temperature conversion (44_measurement.md R140,
R141, R143 to R146). -/

namespace Sys2Proof.Machine

open Claims

/-- Settles O39: CELLV is the Direct Command read of its cell. -/
theorem cellvCompletes : Obligations.CellvCompletes :=
  fun _ _ _ => readCompletes_of_directRead (fun _ => rfl) fun _ _ => rfl

/-- R143: the extension of the open parameter, through the value of the word. -/
theorem extend_eq (signed : Bool) (w : Half) :
    (if signed then w.signExtend 32 else w.setWidth 32) =
      if signed then BitVec.ofInt 32 w.toInt else BitVec.ofNat 32 w.toNat := by
  rw [BitVec.ofNat_toNat, BitVec.signExtend]

/-- Settles O41: CURRENT is a Direct Command read, and its last row extends the word. -/
theorem currentCompletes : Obligations.CurrentCompletes :=
  readCompletes_of_directRead (fun _ => rfl) fun u w =>
    congrArg (fun v : Word => { u.finish with raw := w, result := v }) (extend_eq u.params.currentSignExtend w)

/-- Settles O42: ITEMP is a Direct Command read, and its last row converts the word. -/
theorem itempCompletes : Obligations.ItempCompletes :=
  readCompletes_of_directRead (fun _ => rfl) fun _ _ => rfl

/-- Settles O43: THERM is the Direct Command read of its channel's opcode, and its last row converts the word. -/
theorem thermCompletes : Obligations.ThermCompletes := by
  intro p hp
  have hop : thermOpcode p.1 = p.2 := by
    revert p
    decide
  rw [← hop]
  exact readCompletes_of_directRead (fun _ => rfl) fun _ _ => rfl

/-- Settles O44: the value lies well inside the signed range of 32 bits. -/
theorem centiCelsiusIsExact : Obligations.CentiCelsiusIsExact := by
  intro raw
  have hraw : raw.toNat < 65536 := raw.isLt
  rw [centiCelsius, BitVec.toInt_ofInt]
  exact Int.bmod_eq_of_le (by omega) (by omega)

end Sys2Proof.Machine
end

section
/-! ALLCELLV (44_measurement.md R142): its rows, what the answers of one cell make of a state on its way, and the cells
in ascending order. -/

namespace Sys2Proof.Machine

/-! The rows. -/

section Rows

variable {s : State} {i : Nat}

theorem allcellv_accept (h : s.stepNo = 0) : exec .allcellv s = .next (s.start (frameDC (cellOpcode 1))) := by
  simp [exec, execAllcellv, h]

theorem allcellv_written (hi : i < 16) (h : s.stepNo = BitVec.ofNat 6 (2 * i + 1)) :
    exec .allcellv s = onWrite s fun ok t => (t.noteNack (2 * i + 1) ok).issue (2 * i + 2) (busRead 2) := by
  have hk : s.stepNo.toNat = 2 * i + 1 := by rw [h, BitVec.toNat_ofNat]; omega
  simp only [exec, execAllcellv, hk]
  rw [if_neg (by omega), if_pos (by omega), if_pos (by omega)]

theorem allcellv_received (hi : i < 15) (h : s.stepNo = BitVec.ofNat 6 (2 * i + 2)) :
    exec .allcellv s = onRead2 s fun t =>
      (t.setCell (i + 1)).issue (2 * (i + 1) + 1) (frameDC (cellOpcode (i + 2))) := by
  have hk : s.stepNo.toNat = 2 * i + 2 := by rw [h, BitVec.toNat_ofNat]; omega
  have hcell : (2 * i + 2) / 2 = i + 1 := by omega
  have hlast : 2 * i + 2 ≠ 32 := by omega
  simp only [exec, execAllcellv, hk, hcell, hlast, if_false]
  rw [if_neg (by omega), if_pos (by omega), if_neg (by omega)]
  rfl

theorem allcellv_last (h : s.stepNo = 32) : exec .allcellv s = onRead2 s fun t => (t.setCell 16).finish := by
  simp [exec, execAllcellv, h]

end Rows

/-! One cell. -/

/-- The state `s` with the word of the cell of index `i` read into RAW and into that cell (R142). -/
def State.readCell (s : State) (i : Nat) (w : Half) : State :=
  { s with raw := w, cells := s.cells.setIfInBounds i w }

section Cells

variable {s : State} {i j k : Nat} {writes : List (Nat × Bool)} {rest : List Input} {events : List Event}

/-- R192 (c), R30: the answer of the two-byte read of step `k`. -/
theorem onRead2_going (f : State → State) (r0 r1 : Byte) :
    onRead2 ((s.going j writes (.answer (.data [r0, r1]) :: rest) events).issue k (busRead 2)) f =
      .next (f ({ s with raw := r1 ++ r0 }.going k writes rest (events ++ br 2 [r0, r1]))) := by
  rw [onRead2_answer rfl]
  simp [State.going, State.issue, State.take, br, busRead, Config.devRd, assemble]

/-- R142: the write of a cell's opcode, then the read, whatever the answer. -/
theorem exec_cell_written (hi : i < 16) (hws : 0 ∉ writes.map Prod.fst) (op : Byte) (ok : Bool) :
    exec .allcellv ((s.going j writes (.answer (.wrote ok) :: rest) events).issue (2 * i + 1) (frameDC op)) =
      .next ((s.going (2 * i + 1) (writes ++ [(2 * i + 1, ok)]) rest (events ++ bw [op] ok)).issue (2 * i + 2)
        (busRead 2)) := by
  rw [allcellv_written hi rfl]
  exact onWrite_noteNack_going (Nat.succ_ne_zero _) hws ..

/-- R142: the word of a cell but the last, then the opcode of the next. -/
theorem exec_cell_received (hi : i < 15) (r0 r1 : Byte) :
    exec .allcellv ((s.going j writes (.answer (.data [r0, r1]) :: rest) events).issue (2 * i + 2) (busRead 2)) =
      .next (((s.readCell i (r1 ++ r0)).going (2 * i + 2) writes rest (events ++ br 2 [r0, r1])).issue
        (2 * (i + 1) + 1) (frameDC (cellOpcode (i + 2)))) := by
  rw [allcellv_received hi rfl, onRead2_going]
  rfl

/-- R142: the word of the last cell, then `done`. -/
theorem exec_cell_last (r0 r1 : Byte) :
    exec .allcellv ((s.going j writes (.answer (.data [r0, r1]) :: rest) events).issue 32 (busRead 2)) =
      .next ((s.readCell 15 (r1 ++ r0)).ended writes rest (events ++ br 2 [r0, r1])) := by
  rw [allcellv_last rfl, onRead2_going]
  rfl

end Cells

/-! The cells in ascending order: what is left of them from an index on. -/

/-- The answers of the cell of index `i`: to the write of its opcode and to its read (R142). -/
def cellAnswers (ok : Fin 16 → Bool) (r0 r1 : Fin 16 → Byte) (i : Fin 16) : List Input :=
  [.answer (.wrote (ok i)), .answer (.data [r0 i, r1 i])]

/-- Its events. -/
def cellTrace (ok : Fin 16 → Bool) (r0 r1 : Fin 16 → Byte) (i : Fin 16) : List Event :=
  bw [BitVec.ofNat 8 (0x14 + i.val * 2)] (ok i) ++ br 2 [r0 i, r1 i]

/-- Its write with its step number. -/
def cellWrite (ok : Fin 16 → Bool) (i : Fin 16) : Nat × Bool := (2 * i.val + 1, ok i)

/-- The cells of index `i` and above, in ascending order. -/
def cellsLeft (i : Nat) : List (Fin 16) := (List.finRange 16).drop i

theorem cellsLeft_eq_cons {i : Nat} (hi : i < 16) : cellsLeft i = ⟨i, hi⟩ :: cellsLeft (i + 1) := by
  rw [cellsLeft, List.drop_eq_getElem_cons (by simpa using hi), List.getElem_finRange]
  rfl

theorem cellsLeft_sixteen : cellsLeft 16 = [] := rfl

/-- The cells once the words of the cells of index `i` and above have been read (R142). -/
def cellsFrom (cells : Vector Half 16) (w : Fin 16 → Half) (i : Nat) : Vector Half 16 :=
  Vector.ofFn fun k => if k.val < i then cells[k] else w k

theorem cellsFrom_zero (cells : Vector Half 16) (w : Fin 16 → Half) : cellsFrom cells w 0 = Vector.ofFn w := by
  simp [cellsFrom]

/-- Reading one cell more is storing its word first. -/
theorem cellsFrom_succ_set (cells : Vector Half 16) (w : Fin 16 → Half) {i : Nat} (hi : i < 16) :
    cellsFrom (cells.setIfInBounds i (w ⟨i, hi⟩)) w (i + 1) = cellsFrom cells w i := by
  refine Vector.ext fun k hk => ?_
  simp only [cellsFrom, Vector.getElem_ofFn, Fin.getElem_fin, Vector.getElem_setIfInBounds]
  rcases Nat.lt_trichotomy k i with hlt | rfl | hgt
  · rw [if_pos (by omega), if_neg (by omega), if_pos hlt]
  · simp
  · rw [if_neg (by omega), if_neg (by omega)]

theorem cellsFrom_sixteen (cells : Vector Half 16) (w : Fin 16 → Half) : cellsFrom cells w 16 = cells := by
  refine Vector.ext fun k hk => ?_
  simp [cellsFrom]

/-- The state `s` after the cells of index `i` and above and `done`: `writes` and `events` are those before them. -/
def State.cellsRead (s : State) (ok : Fin 16 → Bool) (r0 r1 : Fin 16 → Byte) (i : Nat) (writes : List (Nat × Bool))
    (rest : List Input) (events : List Event) : State :=
  { s.ended (writes ++ (cellsLeft i).map (cellWrite ok)) rest
      (events ++ (cellsLeft i).flatMap (cellTrace ok r0 r1)) with
    raw := r1 15 ++ r0 15, cells := cellsFrom s.cells (fun k => r1 k ++ r0 k) i }

section AllCells

variable {s : State} {ok : Fin 16 → Bool} {r0 r1 : Fin 16 → Byte} {i : Nat} {writes : List (Nat × Bool)}
  {rest : List Input} {events : List Event}

/-- Past the last cell nothing is left to read. -/
theorem cellsRead_sixteen :
    (s.readCell 15 (r1 15 ++ r0 15)).cellsRead ok r0 r1 16 writes rest events =
      (s.readCell 15 (r1 15 ++ r0 15)).ended writes rest events := by
  rw [State.cellsRead, cellsLeft_sixteen, cellsFrom_sixteen, List.map_nil, List.flatMap_nil, List.append_nil,
    List.append_nil]
  rfl

/-- The cell of index `i` and then the cells above it are the cells from index `i` on. -/
theorem readCell_cellsRead (hi : i < 16) :
    (s.readCell i (r1 ⟨i, hi⟩ ++ r0 ⟨i, hi⟩)).cellsRead ok r0 r1 (i + 1) (writes ++ [(2 * i + 1, ok ⟨i, hi⟩)]) rest
        (events ++ bw [cellOpcode (i + 1)] (ok ⟨i, hi⟩) ++ br 2 [r0 ⟨i, hi⟩, r1 ⟨i, hi⟩]) =
      s.cellsRead ok r0 r1 i writes rest events := by
  have hop : cellOpcode (i + 1) = BitVec.ofNat 8 (0x14 + i * 2) := rfl
  rw [State.cellsRead, State.cellsRead, cellsLeft_eq_cons hi, ← cellsFrom_succ_set s.cells _ hi]
  simp [State.ended, State.readCell, cellWrite, cellTrace, hop]

/-- R142: from the opcode write of the cell of index `i` on, with `n` cells after it. -/
theorem cells_complete {n j : Nat} (hn : i + n = 15) (hws : 0 ∉ writes.map Prod.fst) :
    Completes .allcellv (2 * n + 1)
      ((s.going j writes ((cellsLeft i).flatMap (cellAnswers ok r0 r1) ++ rest) events).issue (2 * i + 1)
        (frameDC (cellOpcode (i + 1))))
      (s.cellsRead ok r0 r1 i writes rest events) := by
  have hi : i < 16 := by omega
  induction n generalizing i j s writes events with
  | zero =>
    obtain rfl : i = 15 := hn
    rw [cellsLeft_eq_cons hi, ← readCell_cellsRead hi]
    refine completes_succ (exec_cell_written hi hws ..) (completes_zero rfl ?_)
    exact (exec_cell_last ..).trans (congrArg _ cellsRead_sixteen.symm)
  | succ n ih =>
    rw [cellsLeft_eq_cons hi, ← readCell_cellsRead hi]
    refine completes_succ (exec_cell_written hi hws ..) (completes_succ (exec_cell_received (by omega) ..) ?_)
    exact ih (by omega) (by simpa using hws) (by omega)

end AllCells

/-- Settles O40: the acceptance, then the sixteen cells. -/
theorem allcellvCompletes : Obligations.AllcellvCompletes := by
  rintro s ok r0 r1 rest ⟨-, hstep⟩ hin
  have haccept := allcellv_accept hstep
  rw [start_eq_going, hin] at haccept
  have hcells := cells_complete (s := s) (ok := ok) (r0 := r0) (r1 := r1) (rest := rest) (i := 0) (j := 0)
    (n := 15) (writes := []) (events := []) rfl List.not_mem_nil
  rw [State.cellsRead, cellsFrom_zero] at hcells
  exact completes_succ haccept hcells

end Sys2Proof.Machine
end

section
/-! RDEC as the choice of bits by their positions (45_status_decode.md R150, R151, R153, R155). -/

namespace Sys2Proof.Machine

/-- The bits of `b` that stand at the positions `ps`, packed in that order. -/
def flagsAt (n : Nat) (ps : List (Fin 8)) (b : Byte) : BitVec n := packFlags n (ps.map fun i : Fin 8 => b.getLsbD i.val)

/-- R151: the positions of the six PROTF flags. -/
def protFlagPositions (p : Config.ProtPos) : List (Fin 8) := p.positions ++ [3, 2]

theorem decProt_eq_flagsAt (p : Config.ProtPos) (b : Byte) : decProt p b = flagsAt 6 (protFlagPositions p) b := rfl

theorem decTemp_eq_flagsAt (p : Config.TempPos) (b : Byte) : decTemp p b = flagsAt 7 p.positions b := rfl

theorem decFet_eq_flagsAt (b : Byte) : decFet b = flagsAt 2 [0, 2] b := rfl

section Flags

variable {n : Nat} {ps : List (Fin 8)} {b : Byte}

/-- R150: a flag is the bit at its position. -/
theorem getLsbD_flagsAt (m : Nat) :
    (flagsAt n ps b).getLsbD m = (decide (m < n) && ps[m]?.any fun i => b.getLsbD i.val) := by
  rw [flagsAt, getLsbD_packFlags, List.getD_eq_getElem?_getD, List.getElem?_map]
  cases ps[m]? <;> rfl

/-- Clearing bit `j` leaves every other bit. -/
theorem getLsbD_clearBit_of_ne {i j : Fin 8} (h : i ≠ j) :
    (b &&& ~~~((1 : Byte) <<< j.val)).getLsbD i.val = b.getLsbD i.val := by
  have hbit : ((1 : Byte) <<< j.val).getLsbD i.val = false :=
    (BitVec.getLsbD_twoPow j.val i.val).trans (by simp [Fin.val_inj, h.symm])
  rw [BitVec.getLsbD_and, BitVec.getLsbD_not, hbit]
  simp

/-- R150: a flag that does not stand at position `j` does not depend on bit `j`. -/
theorem getLsbD_flagsAt_clearBit {m : Nat} {j : Fin 8} (hj : ps[m]? ≠ some j) :
    (flagsAt n ps (b &&& ~~~((1 : Byte) <<< j.val))).getLsbD m = (flagsAt n ps b).getLsbD m := by
  rw [getLsbD_flagsAt, getLsbD_flagsAt]
  cases hi : ps[m]? with
  | none => rfl
  | some i =>
    have hij : i ≠ j := fun h => hj (h ▸ hi)
    rw [Option.any_some, Option.any_some, getLsbD_clearBit_of_ne hij]

/-- R150: at distinct positions one bit feeds at most one flag. -/
theorem flagsAt_clearBit_changes_one (hps : ps.Nodup) (j : Fin 8) {m k : Nat} (hmk : m ≠ k) :
    (flagsAt n ps b).getLsbD m = (flagsAt n ps (b &&& ~~~((1 : Byte) <<< j.val))).getLsbD m ∨
      (flagsAt n ps b).getLsbD k = (flagsAt n ps (b &&& ~~~((1 : Byte) <<< j.val))).getLsbD k := by
  by_cases hm : ps[m]? = some j
  · have hk : ps[k]? ≠ some j := fun hk =>
      hmk ((List.getElem?_inj (List.getElem?_eq_some_iff.1 hm).1 hps).1 (hm.trans hk.symm))
    exact .inr (getLsbD_flagsAt_clearBit hk).symm
  · exact .inl (getLsbD_flagsAt_clearBit hm).symm

end Flags

/-! The positions of legal parameters (R9). -/

theorem nodup_protFlagPositions {p : Config.Params} (h : p.legal = true) : (protFlagPositions p.protPos).Nodup := by
  simp only [Config.Params.legal, Bool.and_eq_true, decide_eq_true_eq, List.all_eq_true, bne_iff_ne] at h
  obtain ⟨⟨hprot, hfree⟩, -⟩ := h
  have hdisjoint : p.protPos.positions.Disjoint [3, 2] := by
    intro i hi hfixed
    obtain ⟨huv, hov⟩ := hfree i hi
    obtain rfl | rfl : i = 3 ∨ i = 2 := by simpa using hfixed
    · exact hov rfl
    · exact huv rfl
  exact hprot.append (by decide) hdisjoint

theorem nodup_tempPositions {p : Config.Params} (h : p.legal = true) : p.tempPos.positions.Nodup := by
  simp only [Config.Params.legal, Bool.and_eq_true, decide_eq_true_eq] at h
  obtain ⟨-, htemp⟩ := h
  exact htemp

/-- Settles O46: the positions of the flags of one register are distinct, so the cleared bit stands at one of them at
most. -/
theorem noBitFeedsTwoFlags : Obligations.NoBitFeedsTwoFlags := fun _ _ j _ _ hlegal hmn =>
  ⟨flagsAt_clearBit_changes_one (nodup_protFlagPositions hlegal) j hmn,
    flagsAt_clearBit_changes_one (nodup_tempPositions hlegal) j hmn⟩

/-- Settles O45: each flag is read off at its place in the list of positions. -/
theorem flagsAreSingleBits : Obligations.FlagsAreSingleBits := by
  refine ⟨fun p b => ?_, fun p b => ?_, fun b => ?_⟩
  · simp only [decProt_eq_flagsAt, getLsbD_flagsAt]
    exact ⟨rfl, rfl, rfl, rfl, rfl, rfl⟩
  · simp only [decTemp_eq_flagsAt, getLsbD_flagsAt]
    exact ⟨rfl, rfl, rfl, rfl, rfl, rfl, rfl⟩
  · simp only [decFet_eq_flagsAt, getLsbD_flagsAt]
    exact ⟨rfl, rfl⟩

end Sys2Proof.Machine
end

section
/-! The commands of RDEC: four that read the status byte and three that are given it (45_status_decode.md R154 to
R162). -/

namespace Sys2Proof.Machine

open Claims

/-- Settles O47: PROT is a Direct Command read, and its last row decodes the low byte of the word. -/
theorem protCompletes : Obligations.ProtCompletes :=
  readCompletes_of_directRead (fun _ => rfl) fun _ _ => by simp [State.decodeProt, State.finish, lo8]

/-- Settles O48: TEMPSTAT is a Direct Command read, and its last row decodes the low byte of the word. -/
theorem tempstatCompletes : Obligations.TempstatCompletes :=
  readCompletes_of_directRead (fun _ => rfl) fun _ _ => by simp [State.decodeTemp, State.finish, lo8]

/-- One bit of a value as the number RESULT holds. -/
theorem setWidth_extractLsb'_one {n : Nat} (v : BitVec n) (i : Nat) :
    (v.extractLsb' i 1).setWidth 32 = if v.getLsbD i then 1 else 0 := by
  have hbit : v.extractLsb' i 1 = BitVec.ofBool (v.getLsbD i) := by
    ext k hk
    obtain rfl : k = 0 := by omega
    simp
  rw [hbit]
  cases v.getLsbD i <;> rfl

/-- R158, R159: a command that reads the FET status and returns flag `k` of FETF, which is bit `m` of the byte. -/
theorem fetFlag_readCompletes {i : Instr} {k m : Nat}
    (hexec : ∀ s, exec i s = directRead Config.opFetstat (fun t =>
      (t.decodeFet (lo8 t.raw)).setResult (((decFet (lo8 t.raw)).extractLsb' k 1).setWidth 32)) s)
    (hm : m < 8) (hflag : ∀ b, (decFet b).getLsbD k = b.getLsbD m) :
    ReadCompletes i 0x7F fun t w =>
      { t with fetf := decFet (w.extractLsb' 0 8), result := if w.getLsbD m then 1 else 0 } := by
  refine readCompletes_of_directRead hexec fun u w => ?_
  have hresult : ((decFet (lo8 w)).extractLsb' k 1).setWidth 32 = if w.getLsbD m then (1 : Word) else 0 := by
    rw [setWidth_extractLsb'_one, hflag]
    simp [lo8, hm]
  rw [← hresult]
  rfl

/-- Settles O49: CHG is bit 0 of the FET status and DSG bit 2. -/
theorem ischgAndIsdsgComplete : Obligations.IschgAndIsdsgComplete := by
  obtain ⟨-, -, hfet⟩ := flagsAreSingleBits
  obtain ⟨hchg, hdsg⟩ := forall_and.1 hfet
  exact ⟨fetFlag_readCompletes (fun _ => rfl) (by decide) hchg, fetFlag_readCompletes (fun _ => rfl) (by decide) hdsg⟩

/-- R25: an acceptance that is `done` at once changes an idle state by the outcome and its event alone. -/
theorem finish_begin_of_idle {s : State} (hs : Idle s) : s.begin.finish = quiet s := by
  obtain ⟨hb, h0⟩ := hs
  simp [State.begin, State.finish, quiet, hb, h0]

/-- Settles O50: the decode commutes with `done`. -/
theorem decodingCommandsComplete : Obligations.DecodingCommandsComplete := by
  intro s b hs
  rw [← finish_begin_of_idle hs]
  exact ⟨rfl, rfl, rfl⟩

end Sys2Proof.Machine
end

section
/-! SETFET (46_configuration.md R170, R171): one write of the three-byte frame of the code of the FET code map. -/

namespace Sys2Proof.Machine

open Claims

/-- R170, R210: ON is the all-on code for every target. -/
theorem fetCode_on (target : FetTarget) : fetCode target .on = Config.scAllOn := by
  cases target <;> rfl

/-- R171: SETFET is a single bus write of the frame of its code. -/
theorem setfet_writeCompletes {target : FetTarget} {state : FetState} {bytes : List Byte}
    (hframe : frameSC (fetCode target state) = busWrite bytes) : WriteCompletes (.setfet target state) bytes :=
  writeCompletes_of_singleWrite fun s => congrArg (singleWrite · s) hframe

/-- Settles O51: the frame of each code of the code map, which is the same for every ON. -/
theorem setfetCompletes : Obligations.SetfetCompletes := by
  refine ⟨setfet_writeCompletes rfl, setfet_writeCompletes rfl, setfet_writeCompletes rfl, fun target => ?_⟩
  exact setfet_writeCompletes (by rw [fetCode_on]; rfl)

end Sys2Proof.Machine
end

section
/-! The two bytes of SETCOV (46_configuration.md R172, R173). Both quotients are rounded to nearest by adding half of
the divisor before the division; the halves 253 and 33 are odd and what they are added to is even, so no quotient lies
halfway between two integers. -/

namespace Sys2Proof.Machine

/-- Settles O52: the division answers the nearest integer, and both outcomes of its range test fit in a byte. -/
theorem covThresholdRoundsOrDefaults : Obligations.CovThresholdRoundsOrDefaults := by
  intro mv q hle hge
  have hq : (10 * mv.toNat + 253) / 506 = q := by omega
  simp only [covThresh, hq, Config.covRawMin, Config.covRawMax, Config.covRawDefault, BitVec.toNat_ofNat]
  split
  · exact Nat.mod_eq_of_lt (by omega)
  · rfl

/-- R173: the validated delay from the integer `n` nearest to ms / 3.3. -/
theorem covDelayFull_eq_of_nearest {ms : Half} {n : Nat} (hle : 66 * n ≤ 20 * ms.toNat + 33)
    (hge : 20 * ms.toNat ≤ 66 * n + 33) :
    covDelayFull ms = if 3 ≤ n ∧ n ≤ 2049 then (n : Int) - 2 else 74 := by
  have hn : (20 * (ms.toNat : Int) + 33) / 66 = n := by omega
  simp only [covDelayFull, hn, Config.covDlyMin, Config.covDlyMax, Config.covDlyDefault]
  exact if_congr (by omega) rfl rfl

/-- Settles O53: the low byte of the validated delay. -/
theorem covDelayRoundsDefaultsAndTruncates : Obligations.CovDelayRoundsDefaultsAndTruncates := by
  intro ms n hle hge
  rw [covDelay, covDelayFull_eq_of_nearest hle hge, BitVec.toNat_ofInt]
  split
  · omega
  · rfl

end Sys2Proof.Machine
end

section
/-! SETCOV (46_configuration.md R174): two Data-Memory writes, one after the other. -/

namespace Sys2Proof.Machine

/-- A command that completes from a state it reaches on its way completes from where it set out. -/
theorem completes_of_execTimes {i : Instr} {k m : Nat} {s u t : State} (h : execTimes i k s = .next u)
    (hc : Completes i m u t) : Completes i (k + m) s t := by
  induction k generalizing m u with
  | zero =>
    cases h
    simpa using hc
  | succ k ih =>
    rw [execTimes] at h
    split at h
    · next v hv =>
      rw [Nat.add_right_comm, Nat.add_assoc]
      exact ih hv (completes_succ h hc)
    · cases h
    · cases h

/-- Two parts of a command: the second begins where the last transition of the first ends. -/
theorem completes_append {i : Instr} {k m : Nat} {s u t : State} (h : Completes i k s u) (hc : Completes i m u t) :
    Completes i (k + (m + 1)) s t := by
  obtain ⟨v, hv, -, he⟩ := h
  exact completes_of_execTimes hv (completes_succ he hc)

section Setcov

variable {mv ms : Half} {s : State}

theorem setcov_accept (h : s.stepNo = 0) :
    exec (.setcov mv ms) s = .next ((s.csumLoad 0x9278 (covThresh mv)).start frameEnter) := by
  simp only [exec, execSetcov, h]
  rfl

/-- R174: steps 1 to 6 are the threshold write, and the second checksum and ENTER follow it. -/
theorem setcov_writesThreshold :
    WritesDataMemory (.setcov mv ms) 1 0x9278 (covThresh mv) (·.secondWrite (covDelay ms)) := by
  intro j hj u hu
  have hrow : u.stepNo.toNat = j + 1 := by
    rw [hu, BitVec.toNat_ofNat]
    omega
  simp only [exec, execSetcov, hrow, if_pos hj]
  rfl

/-- R174: steps 7 to 12 are the delay write, and `done` follows it. -/
theorem setcov_writesDelay : WritesDataMemory (.setcov mv ms) 7 0x9279 (covDelay ms) State.finish := by
  intro j hj u hu
  have hrow : u.stepNo.toNat = (j + 6) + 1 := by
    rw [hu, BitVec.toNat_ofNat]
    omega
  have hsecond : ¬ j + 6 < 6 := by omega
  simp only [exec, execSetcov, hrow, if_neg hsecond, Nat.add_sub_cancel]
  rfl

/-- R133, R174: the second write begins with CSUM loaded anew, the outcome so far kept. -/
theorem going_secondWrite (k : Nat) (writes : List (Nat × Bool)) (rest : List Input) (events : List Event) (d : Byte) :
    (s.going k writes rest events).secondWrite d =
      ({ s with acc := dmAcc 0x9279 d, seeded := true }.going k writes rest events).issue 7 frameEnter := by
  have hload := (csumLoadClosedForm (s.going k writes rest events) 0x9279 d).1
  exact congrArg (·.issue 7 frameEnter) hload

end Setcov

/-- R180: no write of a Data-Memory write is step 0, which stands for no refusal. -/
theorem zero_notMem_bracketWrites {n : Nat} (hn : n ≠ 0) (enter dmw ckl exit : Bool) :
    0 ∉ (bracketWrites n enter dmw ckl exit).map Prod.fst := by
  cases enter with
  | false => simp [bracketWrites, hn.symm]
  | true => cases dmw <;> simp [bracketWrites, hn.symm]

/-- Settles O54: the acceptance loads CSUM, the threshold write ends by loading it again, and the delay write ends with
`done`; neither looks at what the other was answered. -/
theorem setcovCompletes : Obligations.SetcovCompletes := by
  rintro mv ms s e1 d1 c1 x1 e2 d2 c2 x2 rest ⟨-, hstep⟩ hin
  have haccept := setcov_accept (mv := mv) (ms := ms) hstep
  rw [start_eq_going, s.csumLoad_inputs, hin, List.append_assoc, (csumLoadClosedForm s 0x9278 _).1] at haccept
  rw [List.length_append, length_bracketAnswers, length_bracketAnswers]
  refine completes_append (completes_succ haccept
    (enterWrite_completes setcov_writesThreshold one_ne_zero List.not_mem_nil e1 d1 c1 x1
      (going_secondWrite (d := covDelay ms) ..).symm)) ?_
  exact enterWrite_completes setcov_writesDelay (by decide) (zero_notMem_bracketWrites one_ne_zero e1 d1 c1 x1)
    e2 d2 c2 x2 (by rw [going_finish]; rfl)

end Sys2Proof.Machine
end

section
/-! What ends a command and what does not (60_exceptions.md R180, R181, R187, R188, R190): the first refusal is the one
recorded, every row of a step table answers a next state, and a late answer is discarded. -/

namespace Sys2Proof.Machine

/-! The first refusal is kept (R181). -/

/-- The outcome recorded is the same in both (R23). -/
structure OutcomeKept (s t : State) : Prop where
  err : t.err = s.err
  fstep : t.fstep = s.fstep

theorem OutcomeKept.refl (s : State) : OutcomeKept s s := ⟨rfl, rfl⟩

theorem OutcomeKept.trans {s t u : State} (h : OutcomeKept s t) (g : OutcomeKept t u) : OutcomeKept s u :=
  ⟨g.err.trans h.err, g.fstep.trans h.fstep⟩

section Refused

variable {s : State} (h0 : s.stepNo ≠ 0) (hrefused : s.err ≠ .ok)

include hrefused

/-- The rows of a Data-Memory write, if what follows the write keeps the outcome. -/
theorem dmWriteSeq_outcomeKept (addr : Half) (val : Byte) (n k : Nat) {fin : State → State}
    (hfin : ∀ u, OutcomeKept u (fin u)) : NextIs (OutcomeKept s) (dmWriteSeq addr val n k fin s) := by
  apply nextIs_dmWriteSeq (OutcomeKept.refl s)
  case exited =>
    intro _ rest _
    have hsettle : OutcomeKept s ((s.take .delayOver rest).settle .exited) := by constructor <;> simp
    exact hsettle.trans (hfin _)
  all_goals
    intros
    constructor <;> simp [State.noteNack_later, hrefused]

include h0

/-- A Direct Command read, if its last row keeps the outcome. -/
theorem directRead_outcomeKept (op : Byte) {fin : State → State} (hfin : ∀ u, OutcomeKept u (fin u)) :
    NextIs (OutcomeKept s) (directRead op fin s) := by
  refine nextIs_directRead (OutcomeKept.refl s) (fun h => absurd h h0) (fun _ ok rest => ?_) fun _ r0 r1 rest => ?_
  · constructor <;> simp [State.noteNack_later, hrefused]
  · obtain ⟨herr, hfstep⟩ := hfin { s.take (.data [r0, r1]) rest with raw := assemble r0 r1 }
    exact ⟨herr, hfstep⟩

theorem singleWrite_outcomeKept (r : Request) : NextIs (OutcomeKept s) (singleWrite r s) := by
  refine nextIs_singleWrite (OutcomeKept.refl s) (fun h => absurd h h0) fun _ ok rest => ?_
  constructor <;> simp [State.noteNack_later, hrefused]

theorem execDmread_outcomeKept (addr : Half) : NextIs (OutcomeKept s) (execDmread addr s) := by
  apply nextIs_execDmread (OutcomeKept.refl s) fun h => absurd h h0
  all_goals
    intros
    constructor <;> simp [State.noteNack_later, hrefused]

theorem execAllcellv_outcomeKept : NextIs (OutcomeKept s) (execAllcellv s) := by
  apply nextIs_execAllcellv (OutcomeKept.refl s) fun h => absurd h h0
  all_goals
    intros
    constructor <;> simp [State.noteNack_later, hrefused]

theorem execCuEnter_outcomeKept : NextIs (OutcomeKept s) (execCuEnter s) := by
  apply nextIs_execCuEnter (OutcomeKept.refl s) fun h => absurd h h0
  all_goals
    intros
    constructor <;> simp [State.noteNack_later, hrefused]

theorem execCuExit_outcomeKept : NextIs (OutcomeKept s) (execCuExit s) := by
  apply nextIs_execCuExit (OutcomeKept.refl s) fun h => absurd h h0
  all_goals
    intros
    constructor <;> simp [State.noteNack_later, hrefused]

theorem execDmwrite_outcomeKept (addr : Half) (val : Byte) : NextIs (OutcomeKept s) (execDmwrite addr val s) := by
  unfold execDmwrite
  split
  · next h => exact absurd (BitVec.eq_of_toNat_eq h) h0
  · exact dmWriteSeq_outcomeKept hrefused addr val 1 _ fun u => ⟨by simp, by simp⟩

theorem execSetcov_outcomeKept (mv ms : Half) : NextIs (OutcomeKept s) (execSetcov mv ms s) := by
  unfold execSetcov
  split
  · next h => exact absurd (BitVec.eq_of_toNat_eq h) h0
  · split
    · exact dmWriteSeq_outcomeKept hrefused _ _ 1 _ fun u => by constructor <;> simp [State.secondWrite]
    · exact dmWriteSeq_outcomeKept hrefused _ _ 7 _ fun u => ⟨by simp, by simp⟩

/-- R181: a command past its acceptance keeps a refusal that is recorded. -/
theorem exec_outcomeKept {i : Instr} (hu : usesBus i = true) : NextIs (OutcomeKept s) (exec i s) := by
  cases i with
  | csClr | csPush | csGet | decProt | decTemp | decFet => cases hu
  | direct | subrsp | cellv | current | itemp | therm | prot | tempstat | ischg | isdsg =>
    exact directRead_outcomeKept h0 hrefused _ fun u => ⟨by simp, by simp⟩
  | subcmd | setfet => exact singleWrite_outcomeKept h0 hrefused _
  | dmread addr => exact execDmread_outcomeKept h0 hrefused addr
  | dmwrite addr val => exact execDmwrite_outcomeKept h0 hrefused addr val
  | cuEnter => exact execCuEnter_outcomeKept h0 hrefused
  | cuExit => exact execCuExit_outcomeKept h0 hrefused
  | allcellv => exact execAllcellv_outcomeKept h0 hrefused
  | setcov mv ms => exact execSetcov_outcomeKept h0 hrefused mv ms

end Refused

/-- Settles O56: BUS_NACK is an outcome other than OK, and such an outcome is kept. -/
theorem firstRefusalIsKept : Obligations.FirstRefusalIsKept := by
  intro i s t hu h0 herr hx
  obtain ⟨hkept, hfstep⟩ := exec_outcomeKept h0 (by simp [herr]) hu t hx
  exact ⟨hkept.trans herr, hfstep⟩

/-! Nothing stops CCA (R180, R188). -/

/-- The transition is to a next state: no fault, no refusal. -/
def Answers (r : Result) : Prop := ∃ t, r = .next t

theorem answers_next (t : State) : Answers (.next t) := ⟨t, rfl⟩

section Rows

variable {s : State}

theorem onWrite_answers (k : Bool → State → State) : Answers (onWrite s k) := by
  obtain h | ⟨_, _, _, h⟩ := onWrite_cases s k <;> exact ⟨_, h⟩

theorem onRead2_answers (k : State → State) : Answers (onRead2 s k) := by
  obtain h | ⟨_, _, _, _, h⟩ := onRead2_cases s k <;> exact ⟨_, h⟩

theorem onRead1_answers (k : Byte → State → State) : Answers (onRead1 s k) := by
  obtain h | ⟨_, _, _, h⟩ := onRead1_cases s k <;> exact ⟨_, h⟩

theorem onDelay_answers (k : State → State) : Answers (onDelay s k) := by
  obtain h | ⟨_, _, h⟩ := onDelay_cases s k <;> exact ⟨_, h⟩

theorem modeWrite_answers (n : Nat) (settle : Request) : Answers (modeWrite n settle s) := onWrite_answers _

theorem directRead_answers (op : Byte) (fin : State → State) (h : s.stepNo.toNat ≤ 2) :
    Answers (directRead op fin s) := by
  obtain ⟨-, hx⟩ | ⟨-, hx⟩ | ⟨-, hx⟩ | ⟨hbeyond, -⟩ := directRead_cases op fin s
  · exact hx ▸ answers_next _
  · exact hx ▸ onWrite_answers _
  · exact hx ▸ onRead2_answers _
  · omega

theorem singleWrite_answers (r : Request) (h : s.stepNo.toNat ≤ 1) : Answers (singleWrite r s) := by
  obtain ⟨-, hx⟩ | ⟨-, hx⟩ | ⟨hbeyond, -⟩ := singleWrite_cases r s
  · exact hx ▸ answers_next _
  · exact hx ▸ onWrite_answers _
  · omega

theorem execDmread_answers (addr : Half) (h : s.stepNo.toNat ≤ 3) : Answers (execDmread addr s) := by
  unfold execDmread
  generalize s.stepNo.toNat = k at h ⊢
  interval_cases k
  · exact answers_next _
  · exact onWrite_answers _
  · exact onWrite_answers _
  · exact onRead1_answers _

theorem execCuEnter_answers (h : s.stepNo.toNat ≤ 2) : Answers (execCuEnter s) := by
  unfold execCuEnter
  generalize s.stepNo.toNat = k at h ⊢
  interval_cases k
  · exact answers_next _
  · exact modeWrite_answers _ _
  · exact onDelay_answers _

theorem execCuExit_answers (h : s.stepNo.toNat ≤ 2) : Answers (execCuExit s) := by
  unfold execCuExit
  generalize s.stepNo.toNat = k at h ⊢
  interval_cases k
  · exact answers_next _
  · exact modeWrite_answers _ _
  · exact onDelay_answers _

theorem execAllcellv_answers (h : s.stepNo.toNat ≤ 32) : Answers (execAllcellv s) := by
  simp only [execAllcellv, h, if_true]
  split
  · exact answers_next _
  · split
    · exact onWrite_answers _
    · exact onRead2_answers _

theorem dmWriteSeq_answers (addr : Half) (val : Byte) (n : Nat) {k : Nat} (fin : State → State) (h : k < 6) :
    Answers (dmWriteSeq addr val n k fin s) := by
  unfold dmWriteSeq
  interval_cases k
  · exact modeWrite_answers _ _
  · exact onDelay_answers _
  · exact onWrite_answers _
  · exact onWrite_answers _
  · exact modeWrite_answers _ _
  · exact onDelay_answers _

theorem execDmwrite_answers (addr : Half) (val : Byte) (h : s.stepNo.toNat ≤ 6) :
    Answers (execDmwrite addr val s) := by
  unfold execDmwrite
  split
  · exact answers_next _
  · exact dmWriteSeq_answers _ _ _ _ (by omega)

theorem execSetcov_answers (mv ms : Half) (h : s.stepNo.toNat ≤ 12) : Answers (execSetcov mv ms s) := by
  unfold execSetcov
  split
  · exact answers_next _
  · split <;> exact dmWriteSeq_answers _ _ _ _ (by omega)

end Rows

/-- The number of rows of a command's step table (R58). -/
def rowCount : Instr → Nat
  | .csClr | .csPush _ | .csGet | .decProt _ | .decTemp _ | .decFet _ => 0
  | .subcmd _ | .setfet _ _ => 1
  | .direct _ | .subrsp | .cuEnter | .cuExit | .cellv _ | .current | .itemp | .therm _ | .prot | .tempstat | .ischg
  | .isdsg => 2
  | .dmread _ => 3
  | .dmwrite _ _ => 6
  | .setcov _ _ => 12
  | .allcellv => 32

/-- Past the last row of its step table a command has no event. -/
theorem eventAt_eq_none_of_rowCount_lt {i : Instr} {k : Nat} (h : rowCount i < k) : eventAt i k = none := by
  obtain ⟨j, rfl⟩ : ∃ j, k = j + (rowCount i + 1) := ⟨_, (Nat.sub_add_cancel h).symm⟩
  cases i with
  | csClr | csPush | csGet | decProt | decTemp | decFet => rfl
  | direct | cellv | current | itemp | therm | prot | tempstat | ischg | isdsg => rfl
  | _ => simp [eventAt, bracketAt, rowCount]

/-- R24, R188: a command answers a next state at its acceptance and at every row of its step table. -/
theorem exec_answers {i : Instr} {s : State} (h : s.stepNo.toNat ≤ rowCount i) : Answers (exec i s) := by
  cases i with
  | csClr | csPush | csGet | decProt | decTemp | decFet => exact answers_next _
  | direct | subrsp | cellv | current | itemp | therm | prot | tempstat | ischg | isdsg =>
    exact directRead_answers _ _ h
  | subcmd | setfet => exact singleWrite_answers _ h
  | dmread addr => exact execDmread_answers addr h
  | dmwrite addr val => exact execDmwrite_answers addr val h
  | cuEnter => exact execCuEnter_answers h
  | cuExit => exact execCuExit_answers h
  | allcellv => exact execAllcellv_answers h
  | setcov mv ms => exact execSetcov_answers mv ms h

/-- A running command stands at a row of its step table (R24). -/
theorem Inv.stepNo_le_rowCount {i : Instr} {s : State} (hs : Inv s) (hb : s.busy = true) (hd : decode s.cmd = some i) :
    s.stepNo.toNat ≤ rowCount i := by
  obtain ⟨j, hj, hsome, hpending, -⟩ := hs.running hb
  obtain rfl : j = i := by simpa [hj] using hd
  by_contra hbeyond
  simp [hpending, eventAt_eq_none_of_rowCount_lt (Nat.lt_of_not_le hbeyond)] at hsome

/-- Settles O59: a word is accepted at step 0, and a running command stands at a row of its step table. -/
theorem invariantStatesNeverStop : Obligations.InvariantStatesNeverStop := by
  intro s hs
  obtain ⟨w, u, hfetch, hrun⟩ | ⟨-, harrival, hrun⟩ | ⟨t, -, -, hx⟩ := step_cases s
  · obtain ⟨i, -, hx⟩ | ⟨-, hx⟩ := hrun
    · obtain hnone | ⟨w', ws, hb, -, -, -, hlatched⟩ := fetch_cases s
      · simp [hnone] at hfetch
      obtain ⟨-, rfl⟩ : w' = w ∧ s.latch w' ws = u := by simpa [hlatched] using hfetch
      exact hx ▸ exec_answers (by simp [hs.idle_iff.1 hb])
    · exact ⟨_, hx⟩
  · obtain ⟨hb, -⟩ := arrival_awaited_iff.1 harrival
    obtain ⟨i, hd, hx⟩ | ⟨hnone, -⟩ := hrun
    · exact hx ▸ exec_answers (hs.stepNo_le_rowCount hb hd)
    · obtain ⟨j, hj, -⟩ := hs.running hb
      simp [hj] at hnone
  · exact ⟨t, hx⟩

/-! Late answers (R187 (c), R201). -/

/-- Settles O14: no word is taken, and the answer is what arrives; it fits an abandoned request first. -/
theorem lateAnswerIsDiscarded : Obligations.LateAnswerIsDiscarded := by
  intro s a rest late hfetch hin hlate
  have harrival : s.arrival = .other { s.discard a rest with late := late } := by simp [State.arrival, hin, hlate]
  exact step_other hfetch harrival

end Sys2Proof.Machine
end

section
/-! Abandoned requests (70_reset_and_hazards.md R201, R205): what comes from outside requests nothing of itself and takes
an abandoned request away only by its answer or, unless it is a delay, by the return of the transport to idle; while one is
left, only a command without interface events is accepted. -/

namespace Sys2Proof.Machine

open Claims

/-- What becomes of a state when something other than the awaited answer arrives, one case for each thing that can
(R187). -/
inductive ArrivesTo (s : State) : State → Prop where
  | silence (hin : s.inputs = []) : ArrivesTo s s
  | word (w : CmdWord) (rest : List Input) (hin : s.inputs = .present w :: rest) : ArrivesTo s (s.presentWord w rest)
  | reset (rest : List Input) (hin : s.inputs = .reset :: rest) : ArrivesTo s (s.resetEvent rest)
  | transportReset (rest : List Input) (hin : s.inputs = .transportReset :: rest) : ArrivesTo s (s.transportReset rest)
  | hostRead (n : RegNo) (rest : List Input) (hin : s.inputs = .hostRead n :: rest) : ArrivesTo s (s.readPort n rest)
  | moment (rest : List Input) (hin : s.inputs = .pause :: rest) : ArrivesTo s (s.passMoment rest)
  | late (a : Answer) (rest : List Input) (left : List Request) (hin : s.inputs = .answer a :: rest)
      (hleft : dropLate a s.late = some left) : ArrivesTo s { s.discard a rest with late := left }
  | stray (a : Answer) (rest : List Input) (hin : s.inputs = .answer a :: rest) (hnone : dropLate a s.late = none) :
      ArrivesTo s (s.discard a rest)

theorem arrivesTo_of_arrival {s t : State} (h : s.arrival = .other t) : ArrivesTo s t := by
  unfold State.arrival at h
  split at h
  case h_1 hin => cases h; exact .silence hin
  case h_2 w rest hin => cases h; exact .word w rest hin
  case h_3 rest hin => cases h; exact .reset rest hin
  case h_4 rest hin => cases h; exact .transportReset rest hin
  case h_5 n rest hin => cases h; exact .hostRead n rest hin
  case h_6 rest hin => cases h; exact .moment rest hin
  case h_7 a rest hin =>
    split at h
    · next left hleft => cases h; exact .late a rest left hin hleft
    · next hnone =>
      split at h
      · cases h
      · cases h; exact .stray a rest hin hnone

/-! No request while one is abandoned (R201). -/

section Traffic

variable {s t u : State} {allowed : Request → Prop}

theorem onlyRequests_trans (h : OnlyRequests s t allowed) (g : OnlyRequests t u allowed) : OnlyRequests s u allowed := by
  obtain ⟨es, hes, hallowed⟩ := h
  obtain ⟨fs, hfs, gallowed⟩ := g
  refine ⟨es ++ fs, by simp [hfs, hes], fun r hr => ?_⟩
  obtain hr | hr := List.mem_append.1 hr
  · exact hallowed r hr
  · exact gallowed r hr

/-- An event that is no request requests nothing. -/
theorem onlyRequests_event (e : Event) (h : t.trace = s.trace ++ [e]) (he : ∀ r, e ≠ .request r) :
    OnlyRequests s t allowed :=
  ⟨[e], h, fun r hr => absurd (List.mem_singleton.1 hr).symm (he r)⟩

theorem ArrivesTo.onlyRequests (h : ArrivesTo s t) : OnlyRequests s t allowed := by
  cases h with
  | silence | word | moment => exact onlyRequests_refl
  | reset => exact onlyRequests_event .reset rfl nofun
  | transportReset => exact onlyRequests_event .transportReset rfl nofun
  | hostRead n => exact onlyRequests_event (.hostRead n (s.hostRead n)) rfl nofun
  | late a | stray a => exact onlyRequests_event (.discarded a) rfl nofun

end Traffic

/-- Settles O15: an abandoned request finds CCA idle and holds back every word whose command would request something;
neither another command nor an arrival requests anything. -/
theorem noRequestWhileTransportBlocked : Obligations.NoRequestWhileTransportBlocked := by
  intro s t hs hlate hstep
  have hblocked : s.transportBlocked = true := by simpa [State.transportBlocked] using hlate
  have hidle : s.busy = false := hs.blocked_idle hblocked
  obtain ⟨w, rest, -, hfree, hrun⟩ | ⟨harrival, -⟩ | harrival := step_next_cases hstep
  · have hlatch : OnlyRequests s (s.latch w rest) fun _ => False := onlyRequests_event (.accept w) rfl nofun
    refine onlyRequests_trans hlatch ?_
    obtain ⟨i, hd, hx⟩ | rfl := hrun
    · have hquiet : usesBus i = false := by simpa [wordUsesBus, hd, hblocked] using hfree
      exact exec_quiet_onlyRequests hquiet t hx
    · exact onlyRequests_event (.done .illegal 0) rfl nofun
  · obtain ⟨hbusy, -⟩ := arrival_awaited_iff.1 harrival
    simp [hidle] at hbusy
  · exact (arrivesTo_of_arrival harrival).onlyRequests

/-! What ends an abandoned request (R201, R205). -/

/-- The next thing from outside ends the abandoned request `r`: an answer that fits it, or the return of the transport to
idle where `r` is no delay (log entry 6). -/
def EndsAbandoned (s : State) (r : Request) : Prop :=
  (∃ a rest, s.inputs = .answer a :: rest ∧ r.answeredBy a = true) ∨
    ((∃ rest, s.inputs = .transportReset :: rest) ∧ ∀ us, r ≠ .delay us)

/-- An abandoned request that an answer does not leave is one that it fits. -/
theorem dropLate_keeps {a : Answer} {late left : List Request} {r : Request} (h : dropLate a late = some left)
    (hr : r ∈ late) : r ∈ left ∨ r.answeredBy a = true := by
  obtain ⟨before, taken, after, rfl, rfl, hfits⟩ := dropLate_cases h
  by_cases hrt : r = taken
  · exact .inr (hrt ▸ hfits)
  · exact .inl (by simpa [hrt] using hr)

theorem ArrivesTo.keeps_abandoned {s t : State} {r : Request} (h : ArrivesTo s t) (hr : r ∈ s.late) :
    r ∈ t.late ∨ EndsAbandoned s r := by
  cases h with
  | silence | word | hostRead | moment | stray => exact .inl hr
  | reset => exact .inl (List.mem_append_left _ hr)
  | transportReset rest hin =>
    cases r with
    | delay => exact .inl (List.mem_filter.2 ⟨hr, rfl⟩)
    | write | read => exact .inr (.inr ⟨⟨rest, hin⟩, nofun⟩)
  | late a rest left hin hleft =>
    exact (dropLate_keeps hleft hr).imp_right fun hfits => .inl ⟨a, rest, hin, hfits⟩

theorem exec_late {i : Instr} {s t : State} (h : exec i s = .next t) : t.late = s.late := by
  obtain ⟨-, -, -, hlate, -⟩ := (exec_frame i s t h).kept
  exact hlate

/-- Settles O60: no command touches the abandoned requests, so only what arrives can end one. -/
theorem abandonedRequestStaysUntilItsAnswer : Obligations.AbandonedRequestStaysUntilItsAnswer := by
  intro s t r hr hstep
  obtain ⟨w, rest, -, -, ⟨i, -, hx⟩ | rfl⟩ | ⟨-, i, -, hx⟩ | harrival := step_next_cases hstep
  · exact .inl (by simpa [exec_late hx] using hr)
  · exact .inl (by simpa using hr)
  · exact .inl (by simpa [exec_late hx] using hr)
  · exact (arrivesTo_of_arrival harrival).keeps_abandoned hr

end Sys2Proof.Machine
end
